-- ==== Sys2Proof/Word.lean ====
section
/-! DEFINITION. The word types of the T16 and the plain arithmetic of belt counts (R1, R6). -/

namespace Sys2Proof

/-- One byte of a frame. -/
abbrev Byte := BitVec 8

/-- A belt count: a 32-bit wrapping encoder count (R1). -/
abbrev Word := BitVec 32

/-- A destination key or a route entry's mask: 24 bits (R50, R76). -/
abbrev Key := BitVec 24

/-- The signed difference of two belt counts (R6): `d` when `a` is `d` counts beyond `b`. -/
def Word.diff (a b : Word) : Int := (a - b).toInt

/-- A position given as "`p` plus a distance" (R6). -/
def Word.plus (p : Word) (n : Nat) : Word := p + BitVec.ofNat 32 n

/-- Position `p` is reached by belt count `c` when the difference is 0 or more (R7). -/
def Word.isReached (c p : Word) : Bool := decide (0 ≤ Word.diff c p)

end Sys2Proof
end

