-- ==== Sys2Proof/Syntax.lean ====
section
/-! DEFINITION. The commands of the block: one constructor of `Instr` for each row of
spec/opcode_table.json, in the table's order. Each is one whole step of the part (spec/95). -/

namespace Sys2Proof

/-- A lane, 0 to 15. -/
abbrev LaneId := Fin 16

/-- The 34 sensor inputs (Chapter 1). -/
inductive SensorInput where
  | entryEye
  | confirmEye (lane : LaneId)
  | fullSensor (lane : LaneId)
  | emergencyStop
  deriving DecidableEq, Repr

/-- The input's number: its bit in the accepted sensor levels (R190). -/
def SensorInput.idx : SensorInput → Fin 34
  | .entryEye => 0
  | .confirmEye l => ⟨1 + l.val, by omega⟩
  | .fullSensor l => ⟨17 + l.val, by omega⟩
  | .emergencyStop => 33

/-- One step of the part. A host command's tag and payload stand in the frame at the head of the
link's command queue, which the interpreter takes (R177), so its row has no operand here. -/
inductive Instr where
  /-- POWER_ON (R191). -/
  | powerOn
  /-- RESET_ASSERT (R191). -/
  | resetAssert
  /-- RESET_END (R186): pin reset ends; `fast` is the RATE strap's level (R172). -/
  | resetEnd (fast : Bool)
  /-- ENCODER_STEP (R1, R2): the encoder lines are sampled at levels `a` and `b`. -/
  | encoderStep (a b : Bool)
  /-- PHASE_ERROR (R5): a sample at which both encoder lines differ from the reference. -/
  | phaseError
  /-- MEASURED_SPEED_UPDATE (R8). -/
  | measuredSpeedUpdate
  /-- SENSOR_CHANGE (R9): the sampled level of `input` is now `level`. -/
  | sensorChange (input : SensorInput) (level : Bool)
  /-- SENSOR_EDGE_ACCEPTED (R9, R10): the candidate of `input` has held for the filter time. -/
  | sensorEdgeAccepted (input : SensorInput)
  /-- JAM_TRIGGER (R36). -/
  | jamTrigger
  /-- TRAIL_EXPIRY (R39). -/
  | trailExpiry
  /-- GAP_RELEASE_TRIGGER (R30). -/
  | gapReleaseTrigger
  /-- BELT_TICK (R16): the part's 1 ms tick. -/
  | beltTick
  /-- STANDSTILL (R17). -/
  | standstill
  /-- ENCODER_STALL (R26). -/
  | encoderStall
  /-- DECISION_TRIGGER (R53) of the item numbered `item`. -/
  | decisionTrigger (item : Nat)
  /-- RUNOUT_TRIGGER (R65) of the item numbered `item`. -/
  | runoutTrigger (item : Nat)
  /-- FIRE_TRIGGER (R123, R124). -/
  | fireTrigger (lane : LaneId)
  /-- DWELL_END (R125). -/
  | dwellEnd (lane : LaneId)
  /-- RETRACT_END (R125). -/
  | retractEnd (lane : LaneId)
  /-- SETTLE_END (R125). -/
  | settleEnd (lane : LaneId)
  /-- WINDOW_CLOSE_TRIGGER (R129). -/
  | windowCloseTrigger (lane : LaneId)
  /-- FULL_DELAY_EXPIRY (R131). -/
  | fullDelayExpiry (lane : LaneId)
  /-- LANE_JAM_EXPIRY (R132). -/
  | laneJamExpiry (lane : LaneId)
  /-- LAST_FIRE_EXPIRY (R122). -/
  | lastFireExpiry (lane : LaneId)
  /-- SPACING_TIMER_EXPIRY (R163). -/
  | spacingTimerExpiry
  /-- RECEIVE_BYTE (R174): a byte with its stop bit (`stop = false` is a framing error, R172). -/
  | receiveByte (byte : Byte) (stop : Bool)
  /-- BYTE_GAP_TIMEOUT (R174). -/
  | byteGapTimeout
  /-- ARBITER_TAKE (R181). -/
  | arbiterTake
  /-- FRAME_SENT (R182). -/
  | frameSent
  /-- BAD_KIND (R177). -/
  | badKind
  /-- IDENTIFY (R183). -/
  | identify
  /-- STATUS (R184). -/
  | status
  /-- SOFT_RESET_TRACK (R185). -/
  | softResetTrack
  /-- SOFT_RESET_EVENTS (R185, R171). -/
  | softResetEvents
  /-- SOFT_RESET_CONFIG (R185). -/
  | softResetConfig
  /-- LINE_CONFIG (R46). -/
  | lineConfig
  /-- LINE_READ (R48). -/
  | lineRead
  /-- BELT_CONFIG (R18). -/
  | beltConfig
  /-- BELT_START (R19). -/
  | beltStart
  /-- BELT_SPEED (R22). -/
  | beltSpeed
  /-- BELT_STOP (R23). -/
  | beltStop
  /-- INFEED_SET (R33). -/
  | infeedSet
  /-- ASSIGN (R56). -/
  | assign
  /-- ASSIGN_LANE (R57). -/
  | assignLane
  /-- CANCEL (R59 to R61). -/
  | cancel
  /-- TRACK_READ (R72). -/
  | trackRead
  /-- ITEM_READ (R73). -/
  | itemRead
  /-- FENCE (R136). -/
  | fence
  /-- ROUTE_WRITE (R80, R81). -/
  | routeWrite
  /-- ROUTE_WRITE_NEXT (R83, R84). -/
  | routeWriteNext
  /-- ROUTE_READ (R87, R88). -/
  | routeRead
  /-- ROUTE_PROBE (R86). -/
  | routeProbe
  /-- ROUTE_CLEAR (R89, R90). -/
  | routeClear
  /-- PLAN_SELECT (R91). -/
  | planSelect
  /-- GROUP_SET (R97). -/
  | groupSet
  /-- GROUP_READ (R98). -/
  | groupRead
  /-- LANE_CONFIG (R114). -/
  | laneConfig
  /-- LANE_STATE with request ENABLE (R115). -/
  | laneStateEnable
  /-- LANE_STATE with request DRAIN (R116). -/
  | laneStateDrain
  /-- LANE_STATE with request DISABLE (R117). -/
  | laneStateDisable
  /-- LANE_READ (R134). -/
  | laneRead
  /-- FAULT_READ (R154). -/
  | faultRead
  /-- FAULT_CLEAR (R155). -/
  | faultClear
  /-- FAULT_MASK (R156). -/
  | faultMask
  /-- FAULT_ACTION (R157). -/
  | faultAction
  /-- FAULT_INJECT (R158). -/
  | faultInject
  /-- EVENT_ENABLE (R162). -/
  | eventEnable
  /-- EVENT_READ (R166). -/
  | eventRead
  /-- REPORT_SET (R167). -/
  | reportSet
  deriving DecidableEq, Repr

end Sys2Proof
end

