-- ==== Sys2Proof/WellFormed.lean ====
section
/-! DEFINITION. Which commands are well formed. Lanes, inputs, levels and bytes are in range by
their types; an item number runs from 1 to 65535 (00, Item numbers; R42). -/

namespace Sys2Proof

/-- An item number is 1 to 65535. -/
def itemNumberOk (n : Nat) : Bool := decide (1 ≤ n) && decide (n ≤ 65535)

/-- The check of a command's operands. -/
def Instr.wf : Instr → Bool
  | .decisionTrigger item => itemNumberOk item
  | .runoutTrigger item => itemNumberOk item
  | .powerOn | .resetAssert | .resetEnd _ | .encoderStep _ _ | .phaseError
  | .measuredSpeedUpdate | .sensorChange _ _ | .sensorEdgeAccepted _ | .jamTrigger
  | .trailExpiry | .gapReleaseTrigger | .beltTick | .standstill | .encoderStall
  | .fireTrigger _ | .dwellEnd _ | .retractEnd _ | .settleEnd _ | .windowCloseTrigger _
  | .fullDelayExpiry _ | .laneJamExpiry _ | .lastFireExpiry _ | .spacingTimerExpiry
  | .receiveByte _ _ | .byteGapTimeout | .arbiterTake | .frameSent | .badKind | .identify
  | .status | .softResetTrack | .softResetEvents | .softResetConfig | .lineConfig | .lineRead
  | .beltConfig | .beltStart | .beltSpeed | .beltStop | .infeedSet | .assign | .assignLane
  | .cancel | .trackRead | .itemRead | .fence | .routeWrite | .routeWriteNext | .routeRead
  | .routeProbe | .routeClear | .planSelect | .groupSet | .groupRead | .laneConfig
  | .laneStateEnable | .laneStateDrain | .laneStateDisable | .laneRead | .faultRead
  | .faultClear | .faultMask | .faultAction | .faultInject | .eventEnable | .eventRead
  | .reportSet => true

end Sys2Proof
end

