-- ==== Sys2Proof/Config.lean ====
section
/-! DEFINITION. What is fixed for one T16 (identity codes, sizes, time limits), and the free values:
constants with no body where the spec gives an effect and does not state a value. -/

namespace Sys2Proof.Config

/-- The vendor code of IDENTIFY (R183). -/
def vendorCode : Nat := 0x0491

/-- The part code of IDENTIFY (R183). -/
def partCode : Nat := 0x0316

/-- The silicon revision of IDENTIFY (R183). -/
def siliconRevision : Nat := 1

/-- The item pool's records (R43). -/
def poolSize : Nat := 64

/-- The command queue's places (R176). -/
def commandQueueSize : Nat := 4

/-- The interpreter takes a frame while fewer reply places than this are held (R177, R179). -/
def interpreterPlaces : Nat := 8

/-- A BUSY reply is queued while fewer reply places than this are held (R176, R179). -/
def busyPlaces : Nat := 12

/-- The fence list's places (R136). -/
def fenceListSize : Nat := 4

/-- A lane's reservation queue's places (R121). -/
def laneQueueSize : Nat := 4

/-- The standstill time in ms (R17). -/
def standstillTime : Nat := 100

/-- The byte gap, in ms, that discards a frame (R174). -/
def byteGapLimit : Nat := 11

/-- Belt travel after which a previous trail or last fire position expires (R39, R122). -/
def expiryDistance : Nat := 65536

/-- The measured-speed window in ms (R14). -/
def speedWindow : Nat := 100

/-- FREE VALUE, safe (log 13): the no-change marker of a CANCEL reply TOO_LATE or NOT_FOUND, which
R61 does not state; applied to a counter of State, so that each reply's marker is free. -/
opaque cancelMarker : Nat → Bool

/-- FREE VALUE, safe (log 14): whether the check named by a refused ENABLE (R115, R190) names the
lane in its lane byte. -/
opaque enableCheckNamesLane : Bool

end Sys2Proof.Config
end

