-- ==== Sys2Proof/Machine/State.lean ====
section
/-! DEFINITION. The state of the T16: every piece of state the spec gives each block, as plain data,
with the values of pin reset. -/

namespace Sys2Proof.Machine

/-! ## Triggers -/

/-- A trigger whose position stands in another field (R7). `reached` marks a position that a forward
step has reached and whose trigger has not been taken yet (log 7). -/
inductive Arm where
  | off
  | armed
  | reached
  deriving DecidableEq, Repr

/-- A trigger with its position (R7); `reached` as in `Arm`. -/
structure Trigger where
  pos : Word
  reached : Bool
  deriving DecidableEq, Repr

/-! ## Position unit (Chapter 1) -/

/-- Encoder mode (R2, R3). -/
inductive EncoderMode where
  | quadX1 | quadX2 | quadX4 | pulseUpDown
  deriving DecidableEq, Repr

/-- A level pair of encoder lines A and B. -/
structure LevelPair where
  a : Bool
  b : Bool
  deriving DecidableEq, Repr

/-- A candidate of a sensor input (R9). Its level is the opposite of the accepted level. `due` marks
a candidate whose held count reached the filter time at a tick (log 7). -/
structure Candidate where
  stamp : Word
  held : Nat
  due : Bool
  deriving DecidableEq, Repr

/-- One sensor input: the pin's sampled level, the accepted level and the candidate (R9). A level is
`true` for blocked, active or asserted. -/
structure SensorState where
  raw : Bool
  accepted : Bool
  candidate : Option Candidate
  deriving DecidableEq, Repr

/-- The position unit. Its four configuration fields stand in `LineConfig` (R14). -/
structure PositionUnit where
  /-- The belt count (R1). -/
  count : Word
  /-- The last sampled pair of encoder lines, which is the decoder reference (R2). -/
  encoder : LevelPair
  /-- The measured speed in counts per second (R8). -/
  measuredSpeed : Int
  /-- Net steps since the last tenth tick (R8). -/
  netSteps : Int
  /-- Net steps of the last ten spans of ten ticks, newest first (R8). -/
  history : List Int
  /-- Ticks since the last tenth tick, 0 to 9 (R8, log 10). -/
  tenth : Nat
  /-- A tenth tick has fallen and the measured speed is to be set (R8). -/
  speedDue : Bool
  /-- The reverse-run counter (R12). -/
  reverseRun : Nat
  sensors : Vector SensorState 34
  deriving DecidableEq, Repr

/-! ## Line configuration (R46) -/

/-- Every field of LINE_CONFIG (R46), with those of the position unit (R14) and the selector's
fallback settings (R102). -/
structure LineConfig where
  runout : Nat
  decision : Nat
  minLength : Nat
  maxLength : Nat
  minGap : Nat
  releaseGap : Nat
  reserve : Nat
  noRead : Option (Fin 8)
  noRoute : Option (Fin 8)
  overflow : Option (Fin 8)
  rejectLane : Option LaneId
  mode : EncoderMode
  inverted : Bool
  filterTime : Nat
  reverseLimit : Nat
  deriving DecidableEq, Repr

/-! ## Belt drive and infeed (Chapter 2) -/

/-- The belt state (R15). -/
inductive BeltState where
  | stopped | accel | run | slow | decel | brake
  deriving DecidableEq, Repr

/-- The belt drive (R15). -/
structure BeltDrive where
  state : BeltState
  /-- Target speed in counts per second. -/
  target : Nat
  /-- Reference speed in thousandths of a count per second (R16). -/
  reference : Nat
  /-- Reference travel in millionths of a count, modulo 2^32 counts (R16). -/
  referenceTravel : Nat
  /-- Measured travel (R25). -/
  measuredTravel : Word
  /-- Deviation (R25). -/
  deviation : Int
  /-- The deviation's magnitude stands above the limit: the slip watch is not armed (R25). -/
  slipAbove : Bool
  /-- Stall timer (R26). -/
  stallTimer : Nat
  /-- The stall occurrence of this run of the timer has been handed on (R26). -/
  stallRaised : Bool
  /-- Standstill timer (R17). -/
  standstillTimer : Nat
  accelRate : Nat
  decelRate : Nat
  deviationLimit : Nat
  stallTime : Nat
  deriving DecidableEq, Repr

/-- The infeed state (R27). -/
inductive InfeedState where
  | off | faultHold | poolHold | gapHold | wait | feeding
  deriving DecidableEq, Repr

/-- The infeed control. -/
structure Infeed where
  enable : Bool
  state : InfeedState
  /-- POOL_EXHAUSTED is in the recovery-hold set (R28). -/
  holdPool : Bool
  /-- ENTRY_JAM is in the recovery-hold set (R28). -/
  holdJam : Bool
  /-- The gap-release point with its trigger (R30). -/
  gapRelease : Option Trigger
  deriving DecidableEq, Repr

/-! ## Induction (Chapter 3) -/

/-- The measurement state (R34). MEASURING holds the lead stamp, UNMEASURED the belt count at which
it was entered (R47). -/
inductive Measurement where
  | clear
  | measuring (lead : Word)
  | jammed
  | unmeasured (entered : Word)
  deriving DecidableEq, Repr

/-- Induction. -/
structure Induction where
  measurement : Measurement
  jamTrigger : Option Trigger
  prevTrail : Option Word
  /-- The trail expiry trigger, at the previous trail position plus 65,536 (R39). -/
  trailExpiry : Arm
  nextItem : Nat
  deriving DecidableEq, Repr

/-! ## Tracking (Chapters 4 and 8) -/

/-- An item's state in the tracked stage (R50). -/
inductive ItemState where
  | waiting | reserved | diverting | runout
  deriving DecidableEq, Repr

/-- An item's fate (R50). -/
inductive Fate where
  | diverted | missed | passedEnd | purged
  deriving DecidableEq, Repr

/-- A decision's reason (R50). -/
inductive Reason where
  | routed | direct | noRead | noRoute | overflow | reject | cancelled | withdrawn | diverterBusy
  deriving DecidableEq, Repr

/-- A pool record in use (R50). The tracked ones stand in the tracking list, the fate-pending ones in
a list of their own; a free record holds nothing (R43, log 11). -/
structure Record where
  item : Nat
  lead : Word
  length : Nat
  shortGap : Bool
  decisionPoint : Word
  runoutPoint : Word
  decisionDue : Bool
  key : Option Key
  directLane : Option LaneId
  state : ItemState
  decisionNumber : Option (BitVec 16)
  lane : Option LaneId
  reason : Option Reason
  route : Option (Fin 32)
  firePos : Option Word
  fate : Option Fate
  confirmOffset : Option Int
  /-- The decision trigger, at the decision point (R52). -/
  decisionArm : Arm
  /-- The run-out trigger, at the run-out point (R64). -/
  runoutArm : Arm
  deriving DecidableEq, Repr

/-- A fence's scope (R136). -/
inductive FenceScope where
  | all | decided
  deriving DecidableEq, Repr

/-- An entry of the fence list (R138). -/
structure Fence where
  tag : Byte
  scope : FenceScope
  boundary : Nat
  covered : Nat
  remaining : Nat
  deriving DecidableEq, Repr

/-- The tracking table. -/
structure Tracking where
  /-- The tracking list, oldest first (R51). -/
  list : List Record
  /-- The fate-pending records (R43). -/
  fatePending : List Record
  decisionCounter : BitVec 16
  fences : List Fence
  deriving DecidableEq, Repr

/-! ## Route table and selector (Chapters 5 and 6) -/

/-- A route entry's target (R76). -/
inductive Target where
  | lane (l : LaneId)
  | group (g : Fin 8)
  deriving DecidableEq, Repr

/-- A route entry (R76). -/
structure RouteEntry where
  valid : Bool
  key : Key
  mask : Key
  plan : Fin 16
  allPlans : Bool
  target : Target
  locked : Bool
  hits : Nat
  deriving DecidableEq, Repr

/-- The cleared form of a route entry (R76). -/
def RouteEntry.cleared : RouteEntry :=
  { valid := false, key := 0, mask := 0, plan := 0, allPlans := false, target := .lane 0,
    locked := false, hits := 0 }

/-- The route table (R75). -/
structure RouteTable where
  entries : Vector RouteEntry 32
  plan : Fin 16
  cursor : Fin 32
  deriving DecidableEq, Repr

/-! ## Lane units (Chapter 7) -/

/-- The target of a lane in CLOSING (R118). -/
inductive ClosingTarget where
  | disabled | fenced
  deriving DecidableEq, Repr

/-- The lane state (R112); CLOSING alone holds a closing target (R118). -/
inductive LaneState where
  | enabled
  | draining
  | closing (target : ClosingTarget)
  | disabled
  | fenced
  deriving DecidableEq, Repr

/-- The diverter's phase. -/
inductive DiverterPhase where
  | idle | extend | retract | settle
  deriving DecidableEq, Repr

/-- The nine geometry fields of LANE_CONFIG (R114). -/
structure Geometry where
  fireDistance : Nat
  dwell : Nat
  retractTime : Nat
  settleTime : Nat
  pitch : Nat
  confirmOpen : Nat
  confirmClose : Nat
  fullDelay : Nat
  jamTime : Nat
  deriving DecidableEq, Repr

/-- The cleared geometry (R113). -/
def Geometry.cleared : Geometry :=
  { fireDistance := 0, dwell := 0, retractTime := 0, settleTime := 0, pitch := 0,
    confirmOpen := 0, confirmClose := 0, fullDelay := 0, jamTime := 0 }

/-- An entry of a reservation queue (R121): RESERVED, or DIVERTING once fired. -/
structure Entry where
  item : Nat
  diverting : Bool
  firePos : Word
  openPos : Word
  closePos : Word
  /-- The fire trigger, at the fire position. -/
  fireArm : Arm
  /-- The window-close trigger, at the window close position (R123). -/
  closeArm : Arm
  deriving DecidableEq, Repr

/-- A lane unit. -/
structure LaneUnit where
  state : LaneState
  configured : Bool
  geometry : Geometry
  queue : List Entry
  lastFire : Option Word
  /-- The expiry trigger, at the last fire position plus 65,536 (R122). -/
  lastFireExpiry : Arm
  phase : DiverterPhase
  /-- Ticks since the phase was entered (R125). -/
  phaseTimer : Nat
  /-- The length the phase began with (R114). -/
  phaseLength : Nat
  dwellEnd : Option Trigger
  full : Bool
  fullTimer : Option Nat
  /-- The full timer reached the full delay at a tick (R131, log 7). -/
  fullDue : Bool
  jam : Bool
  jamTimer : Option Nat
  /-- The jam timer reached the lane jam time at a tick (R132, log 7). -/
  jamDue : Bool
  /-- The four membership slots (R96). -/
  slots : Vector (Option (Fin 7)) 4
  deriving DecidableEq, Repr

/-! ## Fault unit (Chapter 9) -/

/-- The fifteen fault sources (R143). -/
inductive FaultSource where
  | linkFrame | linkOverrun | encoderPhase | beltSlip | encoderStall | beltReverse | estop
  | poolExhausted | entryJam | shortItem | gapShort | divertMiss | strayItem | laneJam
  | diverterOverrun
  deriving DecidableEq, Repr

/-- The source's number (R143). -/
def FaultSource.idx : FaultSource → Fin 15
  | .linkFrame => 0
  | .linkOverrun => 1
  | .encoderPhase => 2
  | .beltSlip => 3
  | .encoderStall => 4
  | .beltReverse => 5
  | .estop => 6
  | .poolExhausted => 7
  | .entryJam => 8
  | .shortItem => 9
  | .gapShort => 10
  | .divertMiss => 11
  | .strayItem => 12
  | .laneJam => 13
  | .diverterOverrun => 14

/-- An action class, in the order RECORD, RECOVER, HALT, STOP (Chapter 9, Action classes). -/
inductive ActionClass where
  | record | recover | halt | stop
  deriving DecidableEq, Repr

/-- The default class of a source (R143). -/
def FaultSource.defaultClass : FaultSource → ActionClass
  | .linkFrame | .linkOverrun | .shortItem | .gapShort | .strayItem | .diverterOverrun => .record
  | .divertMiss | .laneJam => .recover
  | .beltSlip | .poolExhausted | .entryJam => .halt
  | .encoderPhase | .encoderStall | .beltReverse | .estop => .stop

/-- The state of one source (R142); `latchLane` is the lane its latching occurrence named (R159). -/
structure SourceState where
  latched : Bool
  count : Nat
  masked : Bool
  cls : ActionClass
  laneSet : BitVec 16
  latchLane : Option LaneId
  deriving DecidableEq, Repr

/-- The fault unit (R142). -/
structure FaultUnit where
  sources : Vector SourceState 15
  first : Option FaultSource
  deriving DecidableEq, Repr

/-- A source's state after pin reset (R142). -/
def SourceState.reset (f : FaultSource) : SourceState :=
  { latched := false, count := 0, masked := false, cls := f.defaultClass, laneSet := 0,
    latchLane := none }

/-- The fifteen sources in source order (R143). -/
def FaultSource.all : List FaultSource :=
  [.linkFrame, .linkOverrun, .encoderPhase, .beltSlip, .encoderStall, .beltReverse, .estop,
   .poolExhausted, .entryJam, .shortItem, .gapShort, .divertMiss, .strayItem, .laneJam,
   .diverterOverrun]

/-! ## Event unit (Chapter 10) -/

/-- A lane's event types, in order (R160). -/
inductive LaneEvent where
  | confirm | miss | full | free | drained
  deriving DecidableEq, Repr

/-- The line's event types, in order (R160). -/
inductive LineEvent where
  | atSpeed | stopped | infeedGo | infeedHold
  deriving DecidableEq, Repr

/-- An event pair (R160). -/
inductive EventPair where
  | lane (l : LaneId) (t : LaneEvent)
  | line (t : LineEvent)
  deriving DecidableEq, Repr

/-- A lane event type's code (R187). -/
def LaneEvent.code : LaneEvent → Fin 5
  | .confirm => 0
  | .miss => 1
  | .full => 2
  | .free => 3
  | .drained => 4

/-- A line event type's code (R187). -/
def LineEvent.code : LineEvent → Fin 4
  | .atSpeed => 0
  | .stopped => 1
  | .infeedGo => 2
  | .infeedHold => 3

/-- A pair's index: 5n to 5n + 4 for lane n, 80 to 83 for the line (R160). -/
def EventPair.idx : EventPair → Fin 84
  | .lane l t => ⟨5 * l.val + t.code.val, by omega⟩
  | .line t => ⟨80 + t.code.val, by omega⟩

/-- A pending event entry (R161). -/
structure EventEntry where
  count : Nat
  last : Word
  deriving DecidableEq, Repr

/-- The event unit. -/
structure EventUnit where
  enabled : Vector Bool 84
  entries : Vector (Option EventEntry) 84
  cursor : Fin 84
  spacing : Nat
  spacingTimer : Nat
  hold : Bool
  /-- ATN polarity: `true` for ACTIVE_HIGH (R170). -/
  activeHigh : Bool
  deriving DecidableEq, Repr

/-! ## Command link (Chapter 11) -/

/-- The cause a STARTED report carries (R186, R187). -/
inductive ResetCause where
  | powerOn | pin
  deriving DecidableEq, Repr

/-- A reply's status (R178). -/
inductive Status where
  | ok | badKind | badArg | badState | notFound | tooLate | overlap | full | faultActive | busy
  | aborted
  deriving DecidableEq, Repr

/-- A frame's KIND, TAG and PAYLOAD (R173). -/
structure Frame where
  kind : Byte
  tag : Byte
  payload : List Byte
  deriving DecidableEq, Repr

/-- A reply frame (R178): its kind, tag and status, and the fields after the status. -/
structure Reply where
  kind : Byte
  tag : Byte
  status : Status
  fields : List Byte
  deriving DecidableEq, Repr

/-- The fields of a FATE report (R71). -/
structure FateReport where
  item : Nat
  fate : Fate
  lane : Option LaneId
  reason : Option Reason
  route : Option (Fin 32)
  key : Option Key
  decisionNumber : BitVec 16
  confirmOffset : Option Int
  deriving DecidableEq, Repr

/-- A report of the item report queue (R180). -/
inductive ItemReport where
  | started (cause : ResetCause) (fast : Bool)
  | inducted (item : Nat) (lead : Word) (length : Nat) (shortGap : Bool)
  | fate (r : FateReport)
  deriving DecidableEq, Repr

/-- A FAULT report (R159). -/
structure FaultReport where
  source : FaultSource
  count : Nat
  cls : ActionClass
  first : Bool
  lane : Option LaneId
  deriving DecidableEq, Repr

/-- An EVENT report (R168), its source and type given by the pair's index. -/
structure EventReport where
  pair : Fin 84
  count : Nat
  last : Word
  deriving DecidableEq, Repr

/-- A frame taken by the arbiter for transmission (R181). -/
inductive OutFrame where
  | reply (r : Reply)
  | item (r : ItemReport)
  | fault (r : FaultReport)
  | event (r : EventReport)
  deriving DecidableEq, Repr

/-- The receiver (R174): the bytes after START so far, and the byte-gap timer. -/
inductive Receiver where
  | hunting
  | assembling (got : List Byte) (gap : Nat)
  deriving DecidableEq, Repr

/-- The command link. -/
structure Link where
  /-- The bit rate in force: `true` for 921,600 bit/s (R172). -/
  fast : Bool
  receiver : Receiver
  commands : List Frame
  replies : List Reply
  itemReports : List ItemReport
  faultReports : List FaultReport
  /-- The transmitter: idle, or the frame being sent (R181). -/
  sending : Option OutFrame
  resetSeen : Bool
  deriving DecidableEq, Repr

/-! ## The whole -/

/-- The state of the part. -/
structure State where
  /-- The commands waiting for the part, first in first out. -/
  pending : List Instr
  /-- How many free values have been drawn (log 13, log 26). -/
  freeCount : Nat
  /-- Present while pin reset is held, with its cause (R191). -/
  resetHold : Option ResetCause
  position : PositionUnit
  line : LineConfig
  belt : BeltDrive
  infeed : Infeed
  induction : Induction
  tracking : Tracking
  routes : RouteTable
  /-- The round-robin cursor of each group (R99). -/
  cursors : Vector LaneId 8
  lanes : Vector LaneUnit 16
  faults : FaultUnit
  events : EventUnit
  link : Link
  deriving DecidableEq, Repr

/-- Why the part would stop. No command stops it: the spec gives every step of every row an effect
(log 21). -/
inductive Fault where
  /-- Raised by no meaning; it stands because a machine of the host's interface names a fault type.
  Safe: it can stop nothing. -/
  | noneGiven
  deriving DecidableEq, Repr

/-- Why a command would have no meaning. -/
inductive Refusal where
  /-- Raised by `exec` alone, for a command not reached yet. Safe: it stops where the part goes on. -/
  | notModelled (mnemonic : String)
  deriving DecidableEq, Repr

/-! ## Starting values (pin reset) -/

/-- An input with the given pin level as reset ends (R11). -/
def SensorState.atReset (raw : Bool) : SensorState :=
  { raw := raw, accepted := raw, candidate := none }

/-- LINE_CONFIG's values after pin reset and SOFT_RESET CONFIG (R46, R14). -/
def LineConfig.reset : LineConfig :=
  { runout := 1000000, decision := 4000, minLength := 100, maxLength := 4000, minGap := 0,
    releaseGap := 0, reserve := 0, noRead := none, noRoute := none, overflow := none,
    rejectLane := none, mode := .quadX4, inverted := false, filterTime := 2, reverseLimit := 0 }

/-- The belt drive after pin reset and SOFT_RESET CONFIG (R15). -/
def BeltDrive.reset : BeltDrive :=
  { state := .stopped, target := 0, reference := 0, referenceTravel := 0, measuredTravel := 0,
    deviation := 0, slipAbove := false, stallTimer := 0, stallRaised := false,
    standstillTimer := 0, accelRate := 50000, decelRate := 50000, deviationLimit := 0,
    stallTime := 0 }

/-- The infeed after pin reset (R33). -/
def Infeed.reset : Infeed :=
  { enable := false, state := .off, holdPool := false, holdJam := false, gapRelease := none }

/-- Induction after pin reset (R49): `blocked` is the entry eye's accepted level. -/
def Induction.reset (blocked : Bool) : Induction :=
  if blocked then
    { measurement := .unmeasured 0, jamTrigger := some { pos := 4001, reached := false },
      prevTrail := none, trailExpiry := .off, nextItem := 1 }
  else
    { measurement := .clear, jamTrigger := none, prevTrail := none, trailExpiry := .off,
      nextItem := 1 }

/-- The tracking table after pin reset (R43, R55, R138). -/
def Tracking.reset : Tracking :=
  { list := [], fatePending := [], decisionCounter := 0, fences := [] }

/-- The route table after pin reset and SOFT_RESET CONFIG (R75). -/
def RouteTable.reset : RouteTable :=
  { entries := Vector.replicate 32 RouteEntry.cleared, plan := 0, cursor := 0 }

/-- The cursors after pin reset and SOFT_RESET CONFIG (R99). -/
def resetCursors : Vector LaneId 8 := Vector.replicate 8 15

/-- A lane after pin reset (R135): `active` is its full sensor's accepted level (R131). -/
def LaneUnit.reset (active : Bool) : LaneUnit :=
  { state := .disabled, configured := false, geometry := .cleared, queue := [], lastFire := none,
    lastFireExpiry := .off, phase := .idle, phaseTimer := 0, phaseLength := 0, dwellEnd := none,
    full := active, fullTimer := none, fullDue := false, jam := false, jamTimer := none,
    jamDue := false, slots := Vector.replicate 4 none }

/-- The fault unit after pin reset, before level sources are read (R142). -/
def FaultUnit.reset : FaultUnit :=
  { sources := ⟨(FaultSource.all.map SourceState.reset).toArray, rfl⟩, first := none }

/-- The event unit after pin reset (R171). -/
def EventUnit.reset : EventUnit :=
  { enabled := Vector.replicate 84 false, entries := Vector.replicate 84 none, cursor := 83,
    spacing := 0, spacingTimer := 255, hold := false, activeHigh := false }

/-- The link as pin reset ends (R186). -/
def Link.reset (cause : ResetCause) (fast : Bool) : Link :=
  { fast := fast, receiver := .hunting, commands := [], replies := [],
    itemReports := [.started cause fast], faultReports := [], sending := none, resetSeen := true }

/-- The position unit as pin reset ends (R1, R4, R8, R11, R12): the pins as they stand. -/
def PositionUnit.reset (encoder : LevelPair) (raw : Vector Bool 34) : PositionUnit :=
  { count := 0, encoder := encoder, measuredSpeed := 0, netSteps := 0, history := [], tenth := 0,
    speedDue := false, reverseRun := 0,
    sensors := Vector.ofFn fun i => SensorState.atReset raw[i] }

/-- The machine right after a power-on reset with the RATE strap low and every input pin low, clear,
inactive or released: the pins' levels are DESIGN CHOICE (log 9). -/
def State.reset : State :=
  { pending := [], freeCount := 0, resetHold := none,
    position := PositionUnit.reset { a := false, b := false } (Vector.replicate 34 false),
    line := LineConfig.reset, belt := BeltDrive.reset, infeed := Infeed.reset,
    induction := Induction.reset false, tracking := Tracking.reset, routes := RouteTable.reset,
    cursors := resetCursors, lanes := Vector.replicate 16 (LaneUnit.reset false),
    faults := FaultUnit.reset, events := EventUnit.reset, link := Link.reset .powerOn false }

end Sys2Proof.Machine
end

