-- ==== Sys2Proof/Machine/Operands.lean ====
section
/-! DEFINITION. The operands of commands and the fields of replies and reports on the wire: the frame
check (R173), the payload layouts (R187, R189, R190) and the codes. Every `parse…` answers `none`
exactly where the command's rule says BAD_ARG for its payload. -/

namespace Sys2Proof.Machine

/-! ## Numbers on the wire (little-endian, 00 Conventions) -/

/-- A byte holding `v`. -/
def byteOf (v : Nat) : Byte := BitVec.ofNat 8 v

/-- The number a little-endian byte list spells. -/
def leNat : List Byte → Nat
  | [] => 0
  | b :: bs => b.toNat + 256 * leNat bs

/-- The `n` low bytes of `v`, little-endian. -/
def leBytes : Nat → Nat → List Byte
  | 0, _ => []
  | n + 1, v => byteOf v :: leBytes n (v / 256)

/-- The number in the `n` bytes of payload `p` from offset `off`. -/
def fieldAt (p : List Byte) (off n : Nat) : Nat := leNat ((p.drop off).take n)

/-- A flag: 0 no, 1 yes (R190). -/
def flagByte (b : Bool) : Byte := if b then 1 else 0

/-- An optional number of one byte: 0xFF when absent (R190). -/
def optFinByte {n : Nat} : Option (Fin n) → Byte
  | none => 0xFF
  | some i => byteOf i.val

/-- An optional number of two bytes: 0xFFFF when absent. -/
def optHalf : Option Nat → List Byte
  | none => leBytes 2 0xFFFF
  | some v => leBytes 2 v

/-- An optional key: 0xFFFFFFFF when absent (R190). -/
def keyBytes : Option Key → List Byte
  | none => leBytes 4 0xFFFFFFFF
  | some k => leBytes 4 k.toNat

/-- A belt count that is always present: 4 bytes (R190). -/
def wordBytes (w : Word) : List Byte := leBytes 4 w.toNat

/-- A position that may be absent: a presence byte, then the belt count, 0 when absent (R190). -/
def optWordBytes : Option Word → List Byte
  | none => 0 :: leBytes 4 0
  | some w => 1 :: wordBytes w

/-- A confirm offset: a signed 16-bit number, an offset above 32,767 written as 32,767; 0xFFFF when
absent (R127, R187). -/
def offsetBytes : Option Int → List Byte
  | none => leBytes 2 0xFFFF
  | some d => leBytes 2 (BitVec.ofInt 16 (min d 32767)).toNat

/-- A signed 32-bit number. -/
def signedBytes (d : Int) : List Byte := leBytes 4 (BitVec.ofInt 32 d).toNat

/-! ## Codes (R187, R189, R190) -/

def Status.code : Status → Byte
  | .ok => 0x00
  | .badKind => 0x01
  | .badArg => 0x02
  | .badState => 0x03
  | .notFound => 0x04
  | .tooLate => 0x05
  | .overlap => 0x06
  | .full => 0x07
  | .faultActive => 0x08
  | .busy => 0x09
  | .aborted => 0x0A

def BeltState.code : BeltState → Byte
  | .stopped => 0
  | .accel => 1
  | .run => 2
  | .slow => 3
  | .decel => 4
  | .brake => 5

def InfeedState.code : InfeedState → Byte
  | .off => 0
  | .faultHold => 1
  | .poolHold => 2
  | .gapHold => 3
  | .wait => 4
  | .feeding => 5

def Measurement.code : Measurement → Byte
  | .clear => 0
  | .measuring _ => 1
  | .jammed => 2
  | .unmeasured _ => 3

def ItemState.code : ItemState → Byte
  | .waiting => 0
  | .reserved => 1
  | .diverting => 2
  | .runout => 3

def Fate.code : Fate → Byte
  | .diverted => 0
  | .missed => 1
  | .passedEnd => 2
  | .purged => 3

def Reason.code : Reason → Byte
  | .routed => 0
  | .direct => 1
  | .noRead => 2
  | .noRoute => 3
  | .overflow => 4
  | .reject => 5
  | .cancelled => 6
  | .withdrawn => 7
  | .diverterBusy => 8

def ActionClass.code : ActionClass → Byte
  | .record => 0
  | .recover => 1
  | .halt => 2
  | .stop => 3

def LaneState.code : LaneState → Byte
  | .enabled => 0
  | .draining => 1
  | .closing _ => 2
  | .disabled => 3
  | .fenced => 4

def ClosingTarget.code : ClosingTarget → Byte
  | .disabled => 3
  | .fenced => 4

def DiverterPhase.code : DiverterPhase → Byte
  | .idle => 0
  | .extend => 1
  | .retract => 2
  | .settle => 3

def FenceScope.code : FenceScope → Byte
  | .all => 0
  | .decided => 1

def ResetCause.code : ResetCause → Byte
  | .powerOn => 0
  | .pin => 1

def EncoderMode.code : EncoderMode → Byte
  | .quadX1 => 0
  | .quadX2 => 1
  | .quadX4 => 2
  | .pulseUpDown => 3

/-- The code of an optional value: 0xFF when absent. -/
def optCode {α : Type} (f : α → Byte) : Option α → Byte
  | none => 0xFF
  | some x => f x

/-- The closing target: absent in every state but CLOSING (R118). -/
def LaneState.targetByte : LaneState → Byte
  | .closing t => t.code
  | .enabled | .draining | .disabled | .fenced => 0xFF

/-- A target's kind byte, 0 LANE and 1 GROUP (R189), and its number. -/
def Target.bytes : Target → List Byte
  | .lane l => [0, byteOf l.val]
  | .group g => [1, byteOf g.val]

/-! ## Frames (R173) -/

/-- One bit of the CRC: polynomial x^8 + x^2 + x + 1. -/
def crcBit (r : Byte) : Byte := if r.msb then (r <<< 1) ^^^ 0x07 else r <<< 1

/-- One byte of the CRC, most significant bit first. -/
def crcByte (r b : Byte) : Byte :=
  crcBit (crcBit (crcBit (crcBit (crcBit (crcBit (crcBit (crcBit (r ^^^ b))))))))

/-- The CHECK over a byte list, initial value 0 (R173). -/
def crc8 (bs : List Byte) : Byte := bs.foldl crcByte 0

/-- LENGTH, KIND, TAG and PAYLOAD: the bytes CHECK covers (R173). -/
def Frame.body (f : Frame) : List Byte :=
  byteOf (f.payload.length + 2) :: f.kind :: f.tag :: f.payload

/-- A frame on the wire (R173). -/
def Frame.wire (f : Frame) : List Byte := 0xA7 :: (f.body ++ [crc8 f.body])

/-! ## Reports (R187) -/

/-- A FATE report's payload: 14 bytes (R187). -/
def FateReport.payload (r : FateReport) : List Byte :=
  leBytes 2 r.item ++ [r.fate.code, optFinByte r.lane, optCode Reason.code r.reason,
    optFinByte r.route] ++ keyBytes r.key ++ leBytes 2 r.decisionNumber.toNat ++
    offsetBytes r.confirmOffset

/-- An item report's frame (R187, R188). -/
def ItemReport.frame : ItemReport → Frame
  | .started cause fast => { kind := 0xF0, tag := 0, payload := [cause.code, flagByte fast] }
  | .inducted item lead length shortGap =>
    { kind := 0xF1, tag := 0,
      payload := leBytes 2 item ++ wordBytes lead ++ leBytes 2 length ++ [flagByte shortGap] }
  | .fate r => { kind := 0xF2, tag := 0, payload := r.payload }

/-- A FAULT report's frame (R187). -/
def FaultReport.frame (r : FaultReport) : Frame :=
  { kind := 0xF3, tag := 0,
    payload := [byteOf r.source.idx.val, byteOf r.count, r.cls.code, flagByte r.first,
      optFinByte r.lane] }

/-- A pair's source byte: 0 to 15 a lane, 16 LINE (R187). -/
def pairSource (i : Fin 84) : Byte := if i.val < 80 then byteOf (i.val / 5) else 16

/-- A pair's type byte (R187). -/
def pairType (i : Fin 84) : Byte := if i.val < 80 then byteOf (i.val % 5) else byteOf (i.val - 80)

/-- An event entry's seven bytes: source, type, count, last position (R187, R190). -/
def eventBytes (i : Fin 84) (count : Nat) (last : Word) : List Byte :=
  [pairSource i, pairType i, byteOf count] ++ wordBytes last

/-- An EVENT report's frame (R187). -/
def EventReport.frame (r : EventReport) : Frame :=
  { kind := 0xF4, tag := 0, payload := eventBytes r.pair r.count r.last }

/-- A reply's frame: its payload begins with the status (R178, R190). -/
def Reply.frame (r : Reply) : Frame :=
  { kind := r.kind, tag := r.tag, payload := r.status.code :: r.fields }

/-- The frame of what the arbiter took. -/
def OutFrame.frame : OutFrame → Frame
  | .reply r => r.frame
  | .item r => r.frame
  | .fault r => r.frame
  | .event r => r.frame

/-! ## Reading payload fields (R189) -/

/-- A number below `n`. -/
def finOf (n v : Nat) : Option (Fin n) := if h : v < n then some ⟨v, h⟩ else none

/-- A number below `n`, or absent as 0xFF; `none` for any other value. -/
def optFinOf (n v : Nat) : Option (Option (Fin n)) :=
  if v = 0xFF then some none else (finOf n v).map some

/-- A yes/no or on/off field. -/
def boolOf : Nat → Option Bool
  | 0 => some false
  | 1 => some true
  | _ => none

/-- A number from `lo` to `hi`. -/
def rangeOf (lo hi v : Nat) : Option Nat := if lo ≤ v ∧ v ≤ hi then some v else none

/-- A 24-bit key or mask in a 32-bit field; absent is out of range (R80, R86). -/
def keyOf (v : Nat) : Option Key := if v < 16777216 then some (BitVec.ofNat 24 v) else none

/-- A key that may be absent (R56). -/
def optKeyOf (v : Nat) : Option (Option Key) :=
  if v = 0xFFFFFFFF then some none else (keyOf v).map some

/-- An item number that must be present: 0 is refused (R56, R59, R73). -/
def itemOf (v : Nat) : Option Nat := rangeOf 1 65535 v

/-- A fault source set: bit 15 is refused (R187). -/
def sourceSetOf (v : Nat) : Option (BitVec 16) :=
  if v < 32768 then some (BitVec.ofNat 16 v) else none

/-- An action class code (R187). -/
def classOf : Nat → Option ActionClass
  | 0 => some .record
  | 1 => some .recover
  | 2 => some .halt
  | 3 => some .stop
  | _ => none

/-- An encoder mode code (R189). -/
def modeOf : Nat → Option EncoderMode
  | 0 => some .quadX1
  | 1 => some .quadX2
  | 2 => some .quadX4
  | 3 => some .pulseUpDown
  | _ => none

/-- A payload of exactly `n` bytes. -/
def lengthIs (p : List Byte) (n : Nat) : Option Unit := if p.length = n then some () else none

/-- A soft reset's scope (R185). -/
inductive ResetScope where
  | track | events | config
  deriving DecidableEq, Repr

/-- SOFT_RESET's payload (R185, R189). -/
def parseSoftReset (p : List Byte) : Option ResetScope := do
  lengthIs p 1
  match fieldAt p 0 1 with
  | 0 => some .track
  | 1 => some .events
  | 2 => some .config
  | _ => none

/-- LINE_CONFIG's payload (R46, R189). -/
def parseLineConfig (p : List Byte) : Option LineConfig := do
  lengthIs p 26
  let runout ← rangeOf 1 1000000 (fieldAt p 0 4)
  let decision ← rangeOf 1 1000000 (fieldAt p 4 4)
  let minLength ← rangeOf 1 65535 (fieldAt p 8 2)
  let maxLength ← rangeOf 1 65535 (fieldAt p 10 2)
  let reserve ← rangeOf 0 16 (fieldAt p 16 1)
  let noRead ← optFinOf 8 (fieldAt p 17 1)
  let noRoute ← optFinOf 8 (fieldAt p 18 1)
  let overflow ← optFinOf 8 (fieldAt p 19 1)
  let rejectLane ← optFinOf 16 (fieldAt p 20 1)
  let mode ← modeOf (fieldAt p 21 1)
  let inverted ← boolOf (fieldAt p 22 1)
  let filterTime ← rangeOf 0 15 (fieldAt p 23 1)
  if decision < runout ∧ minLength ≤ maxLength then
    some { runout, decision, minLength, maxLength, minGap := fieldAt p 12 2,
           releaseGap := fieldAt p 14 2, reserve, noRead, noRoute, overflow, rejectLane, mode,
           inverted, filterTime, reverseLimit := fieldAt p 24 2 }
  else none

/-- The fields of LINE_CONFIG as stored, in the order of its payload (R46, R190). -/
def LineConfig.bytes (c : LineConfig) : List Byte :=
  leBytes 4 c.runout ++ leBytes 4 c.decision ++ leBytes 2 c.minLength ++ leBytes 2 c.maxLength ++
    leBytes 2 c.minGap ++ leBytes 2 c.releaseGap ++
    [byteOf c.reserve, optFinByte c.noRead, optFinByte c.noRoute, optFinByte c.overflow,
     optFinByte c.rejectLane, c.mode.code, flagByte c.inverted, byteOf c.filterTime] ++
    leBytes 2 c.reverseLimit

/-- BELT_CONFIG's four fields (R18). -/
structure BeltSettings where
  accelRate : Nat
  decelRate : Nat
  deviationLimit : Nat
  stallTime : Nat
  deriving DecidableEq, Repr

/-- BELT_CONFIG's payload when it is not empty (R18, R189). -/
def parseBeltConfig (p : List Byte) : Option BeltSettings := do
  lengthIs p 12
  let accelRate ← rangeOf 1000 2000000 (fieldAt p 0 4)
  let decelRate ← rangeOf 1000 2000000 (fieldAt p 4 4)
  let stallTime := fieldAt p 10 2
  if stallTime = 0 ∨ (10 ≤ stallTime ∧ stallTime ≤ 2000) then
    some { accelRate, decelRate, deviationLimit := fieldAt p 8 2, stallTime }
  else none

/-- The four values of BELT_CONFIG in force (R18). -/
def BeltDrive.settingsBytes (b : BeltDrive) : List Byte :=
  leBytes 4 b.accelRate ++ leBytes 4 b.decelRate ++ leBytes 2 b.deviationLimit ++
    leBytes 2 b.stallTime

/-- BELT_START's and BELT_SPEED's payload: a speed of 1 to 200,000 (R19, R22). -/
def parseSpeed (p : List Byte) : Option Nat := do
  lengthIs p 4
  rangeOf 1 200000 (fieldAt p 0 4)

/-- BELT_STOP's mode (R23). -/
inductive StopMode where
  | ramped | immediate
  deriving DecidableEq, Repr

/-- BELT_STOP's payload (R23, R189). -/
def parseStopMode (p : List Byte) : Option StopMode := do
  lengthIs p 1
  match fieldAt p 0 1 with
  | 0 => some .ramped
  | 1 => some .immediate
  | _ => none

/-- INFEED_SET's payload (R33). -/
def parseEnable (p : List Byte) : Option Bool := do
  lengthIs p 1
  boolOf (fieldAt p 0 1)

/-- ASSIGN's payload (R56): the item number and the key, which may be absent. -/
def parseAssign (p : List Byte) : Option (Nat × Option Key) := do
  lengthIs p 6
  let item ← itemOf (fieldAt p 0 2)
  let key ← optKeyOf (fieldAt p 2 4)
  some (item, key)

/-- ASSIGN_LANE's payload (R57). -/
def parseAssignLane (p : List Byte) : Option (Nat × LaneId) := do
  lengthIs p 3
  let item ← itemOf (fieldAt p 0 2)
  let lane ← finOf 16 (fieldAt p 2 1)
  some (item, lane)

/-- The payload of CANCEL and ITEM_READ: an item number (R59, R73). -/
def parseItem (p : List Byte) : Option Nat := do
  lengthIs p 2
  itemOf (fieldAt p 0 2)

/-- TRACK_READ's payload (R72): the first item number, absent as 0xFFFF (log 16), and the count. -/
def parseTrackRead (p : List Byte) : Option (Option Nat × Nat) := do
  lengthIs p 3
  let first ← itemOf (fieldAt p 0 2)
  let count ← rangeOf 1 16 (fieldAt p 2 1)
  some (if first = 0xFFFF then none else some first, count)

/-- FENCE's payload (R136). -/
def parseFence (p : List Byte) : Option FenceScope := do
  lengthIs p 1
  match fieldAt p 0 1 with
  | 0 => some .all
  | 1 => some .decided
  | _ => none

/-- A route entry's target from its kind and number (R80, R189). -/
def targetOf (kind v : Nat) : Option Target :=
  match kind with
  | 0 => (finOf 16 v).map .lane
  | 1 => (finOf 8 v).map .group
  | _ => none

/-- The new entry ROUTE_WRITE and ROUTE_WRITE_NEXT form from the thirteen bytes at `off`: valid, its
masked key bits 0, hits 0 (R80, R81). -/
def parseRouteEntry (p : List Byte) (off : Nat) : Option RouteEntry := do
  let key ← keyOf (fieldAt p off 4)
  let mask ← keyOf (fieldAt p (off + 4) 4)
  let plan ← finOf 16 (fieldAt p (off + 8) 1)
  let allPlans ← boolOf (fieldAt p (off + 9) 1)
  let target ← targetOf (fieldAt p (off + 10) 1) (fieldAt p (off + 11) 1)
  let locked ← boolOf (fieldAt p (off + 12) 1)
  some { valid := true, key := key &&& ~~~mask, mask, plan, allPlans, target, locked, hits := 0 }

/-- ROUTE_WRITE's payload (R80, R189). -/
def parseRouteWrite (p : List Byte) : Option (Fin 32 × RouteEntry) := do
  lengthIs p 14
  let index ← finOf 32 (fieldAt p 0 1)
  let entry ← parseRouteEntry p 1
  some (index, entry)

/-- ROUTE_WRITE_NEXT's payload (R83, R189). -/
def parseRouteWriteNext (p : List Byte) : Option RouteEntry := do
  lengthIs p 13
  parseRouteEntry p 0

/-- A route entry's fields in the order of R76. -/
def RouteEntry.bytes (e : RouteEntry) : List Byte :=
  flagByte e.valid :: (leBytes 4 e.key.toNat ++ leBytes 4 e.mask.toNat ++
    [byteOf e.plan.val, flagByte e.allPlans] ++ e.target.bytes ++ [flagByte e.locked] ++
    leBytes 2 e.hits)

/-- ROUTE_READ's payload: an index, or absent (R87). -/
def parseRouteRead (p : List Byte) : Option (Option (Fin 32)) := do
  lengthIs p 1
  optFinOf 32 (fieldAt p 0 1)

/-- ROUTE_PROBE's payload: a key, and a plan or absent (R86). -/
def parseRouteProbe (p : List Byte) : Option (Key × Option (Fin 16)) := do
  lengthIs p 5
  let key ← keyOf (fieldAt p 0 4)
  let plan ← optFinOf 16 (fieldAt p 4 1)
  some (key, plan)

/-- ROUTE_CLEAR's scope (R89, R90). -/
inductive ClearScope where
  | one (i : Fin 32)
  | unlocked
  | every
  deriving DecidableEq, Repr

/-- ROUTE_CLEAR's payload: an index, 0x20 ALL or 0x21 ALL+LOCKED (R89, R189). -/
def parseRouteClear (p : List Byte) : Option ClearScope := do
  lengthIs p 1
  let v := fieldAt p 0 1
  if v = 0x20 then some .unlocked
  else if v = 0x21 then some .every
  else (finOf 32 v).map .one

/-- PLAN_SELECT's payload (R91). -/
def parsePlan (p : List Byte) : Option (Fin 16) := do
  lengthIs p 1
  finOf 16 (fieldAt p 0 1)

/-- GROUP_SET's payload (R97): a lane and its four slots. -/
def parseGroupSet (p : List Byte) : Option (LaneId × Vector (Option (Fin 7)) 4) := do
  lengthIs p 5
  let lane ← finOf 16 (fieldAt p 0 1)
  let s0 ← optFinOf 7 (fieldAt p 1 1)
  let s1 ← optFinOf 7 (fieldAt p 2 1)
  let s2 ← optFinOf 7 (fieldAt p 3 1)
  let s3 ← optFinOf 7 (fieldAt p 4 1)
  some (lane, #v[s0, s1, s2, s3])

/-- GROUP_READ's payload (R98). -/
def parseGroup (p : List Byte) : Option (Fin 8) := do
  lengthIs p 1
  finOf 8 (fieldAt p 0 1)

/-- LANE_CONFIG's payload (R114, R189). -/
def parseLaneConfig (p : List Byte) : Option (LaneId × Geometry) := do
  lengthIs p 19
  let lane ← finOf 16 (fieldAt p 0 1)
  let fireDistance ← rangeOf 1 1000000 (fieldAt p 1 4)
  let dwell ← rangeOf 1 65535 (fieldAt p 5 2)
  let pitch ← rangeOf 1 65535 (fieldAt p 9 2)
  let confirmClose ← rangeOf 1 65535 (fieldAt p 13 2)
  let fullDelay ← rangeOf 0 2000 (fieldAt p 15 2)
  let confirmOpen := fieldAt p 11 2
  let jamTime := fieldAt p 17 2
  if confirmOpen < confirmClose ∧ (jamTime = 0 ∨ (100 ≤ jamTime ∧ jamTime ≤ 10000)) then
    some (lane, { fireDistance, dwell, retractTime := fieldAt p 7 1, settleTime := fieldAt p 8 1,
                  pitch, confirmOpen, confirmClose, fullDelay, jamTime })
  else none

/-- The nine geometry fields as stored (R114, R134). -/
def Geometry.bytes (g : Geometry) : List Byte :=
  leBytes 4 g.fireDistance ++ leBytes 2 g.dwell ++ [byteOf g.retractTime, byteOf g.settleTime] ++
    leBytes 2 g.pitch ++ leBytes 2 g.confirmOpen ++ leBytes 2 g.confirmClose ++
    leBytes 2 g.fullDelay ++ leBytes 2 g.jamTime

/-- LANE_STATE's request (R115). -/
inductive LaneRequest where
  | enable | drain | disable
  deriving DecidableEq, Repr

/-- LANE_STATE's payload (R115, R189). -/
def parseLaneState (p : List Byte) : Option (LaneId × LaneRequest) := do
  lengthIs p 2
  let lane ← finOf 16 (fieldAt p 0 1)
  match fieldAt p 1 1 with
  | 0 => some (lane, .enable)
  | 1 => some (lane, .drain)
  | 2 => some (lane, .disable)
  | _ => none

/-- LANE_READ's payload (R134). -/
def parseLane (p : List Byte) : Option LaneId := do
  lengthIs p 1
  finOf 16 (fieldAt p 0 1)

/-- FAULT_CLEAR's payload (R155). -/
def parseFaultClear (p : List Byte) : Option (BitVec 16) := do
  lengthIs p 2
  sourceSetOf (fieldAt p 0 2)

/-- FAULT_MASK's payload (R156): refused where a list names ESTOP or both name one source. -/
def parseFaultMask (p : List Byte) : Option (BitVec 16 × BitVec 16) := do
  lengthIs p 4
  let set ← sourceSetOf (fieldAt p 0 2)
  let clear ← sourceSetOf (fieldAt p 2 2)
  if set.getLsbD 6 = false ∧ clear.getLsbD 6 = false ∧ set &&& clear = 0 then some (set, clear)
  else none

/-- The source with a given number. -/
def sourceOf (v : Nat) : Option FaultSource := FaultSource.all.find? (fun f => f.idx.val = v)

/-- FAULT_ACTION's payload (R157): the source ESTOP is refused. -/
def parseFaultAction (p : List Byte) : Option (FaultSource × ActionClass) := do
  lengthIs p 2
  let source ← sourceOf (fieldAt p 0 1)
  let cls ← classOf (fieldAt p 1 1)
  if source = .estop then none else some (source, cls)

/-- FAULT_INJECT's payload (R158). -/
def parseFaultInject (p : List Byte) : Option (BitVec 16 × Option LaneId) := do
  lengthIs p 3
  let set ← sourceSetOf (fieldAt p 0 2)
  let lane ← optFinOf 16 (fieldAt p 2 1)
  some (set, lane)

/-- EVENT_ENABLE's operands: the pairs it names, as a test on their indices, made from the lane set
and type set or the line's type set (R162). -/
structure EnableArgs where
  line : Bool
  laneSet : BitVec 16
  types : BitVec 8
  on : Bool
  deriving DecidableEq, Repr

/-- EVENT_ENABLE's payload (R162, R187, R189). -/
def parseEventEnable (p : List Byte) : Option EnableArgs := do
  lengthIs p 5
  let line ← boolOf (fieldAt p 0 1)
  let on ← boolOf (fieldAt p 4 1)
  let types := fieldAt p 3 1
  if types < (if line then 16 else 32) then
    some { line, laneSet := BitVec.ofNat 16 (fieldAt p 1 2), types := BitVec.ofNat 8 types, on }
  else none

/-- EVENT_ENABLE names the pair of index `i` (R160, R162). -/
def EnableArgs.names (a : EnableArgs) (i : Fin 84) : Bool :=
  if i.val < 80 then !a.line && a.laneSet.getLsbD (i.val / 5) && a.types.getLsbD (i.val % 5)
  else a.line && a.types.getLsbD (i.val - 80)

/-- EVENT_READ's payload: a maximum of 1 to 20 (R166). -/
def parseEventRead (p : List Byte) : Option Nat := do
  lengthIs p 1
  rangeOf 1 20 (fieldAt p 0 1)

/-- REPORT_SET's three fields (R167). -/
structure ReportSettings where
  spacing : Nat
  hold : Bool
  activeHigh : Bool
  deriving DecidableEq, Repr

/-- REPORT_SET's payload when it is not empty (R167, R189). -/
def parseReportSet (p : List Byte) : Option ReportSettings := do
  lengthIs p 3
  let hold ← boolOf (fieldAt p 1 1)
  let activeHigh ← boolOf (fieldAt p 2 1)
  some { spacing := fieldAt p 0 1, hold, activeHigh }

/-! ## Command kinds (R188) -/

/-- The kinds the table of R188 names. -/
def commandKinds : List Byte :=
  [0x01, 0x02, 0x03, 0x08, 0x09, 0x10, 0x11, 0x12, 0x13, 0x18, 0x20, 0x21, 0x22, 0x23, 0x24, 0x25,
   0x28, 0x29, 0x2A, 0x2B, 0x2C, 0x2D, 0x30, 0x31, 0x38, 0x39, 0x3A, 0x40, 0x41, 0x42, 0x43, 0x44,
   0x48, 0x49, 0x4A]

/-- A KIND of 0x00 to 0x6F is a command frame's (R175). -/
def isCommandKind (k : Byte) : Bool := decide (k.toNat < 0x70)

/-- A reply's kind: its command's kind plus 0x80 (R178, R188). -/
def replyKind (k : Byte) : Byte := k + 0x80

end Sys2Proof.Machine
end

