-- ==== Sys2Proof/Machine/Flags.lean ====
section
/-! DEFINITION. What is computed from the state and not stored: access to lanes, sensors and sources,
counts, conditions, summary sets, and the output pins. -/

namespace Sys2Proof.Machine

/-! ## Access -/

/-- Lane `l`. -/
def State.lane (s : State) (l : LaneId) : LaneUnit := s.lanes[l]

/-- The sensor input `i`. -/
def State.sensor (s : State) (i : SensorInput) : SensorState := s.position.sensors[i.idx]

/-- The accepted level of input `i` (R9). -/
def State.accepted (s : State) (i : SensorInput) : Bool := (s.sensor i).accepted

/-- The state of fault source `f` (R142). -/
def State.source (s : State) (f : FaultSource) : SourceState := s.faults.sources[f.idx]

/-- The sixteen lanes in lane order. -/
def allLanes : List LaneId := List.finRange 16

/-- The part is running: pin reset is not held (R191). -/
def State.running (s : State) : Bool := s.resetHold.isNone

/-! ## Pool and tracking -/

/-- The free count: 64 less the tracked and fate-pending records (R43). -/
def State.freeRecords (s : State) : Nat :=
  Config.poolSize - (s.tracking.list.length + s.tracking.fatePending.length)

/-- The tracked record of an item. -/
def State.tracked (s : State) (item : Nat) : Option Record :=
  s.tracking.list.find? (fun r => r.item = item)

/-- The fate-pending record of an item. -/
def State.pendingRecord (s : State) (item : Nat) : Option Record :=
  s.tracking.fatePending.find? (fun r => r.item = item)

/-- The decided prefix of a tracking list (R53). -/
def decidedPrefix (list : List Record) : List Record :=
  list.takeWhile (fun r => r.state ≠ .waiting)

/-- An item stands at or before a boundary: it is the boundary or up to 63 steps before it along the
numbers 1 to 65535 (R137). -/
def atOrBefore (item boundary : Nat) : Bool :=
  decide ((boundary + 65535 - item) % 65535 ≤ 63)

/-! ## Belt -/

/-- The reference speed in whole counts per second, truncated (R15). -/
def BeltDrive.referenceSpeed (b : BeltDrive) : Nat := b.reference / 1000

/-- The target speed in thousandths of a count per second. -/
def BeltDrive.targetThousandths (b : BeltDrive) : Nat := 1000 * b.target

/-- The states in which the deviation is recomputed (R15, R25). -/
def BeltState.deviationWatched : BeltState → Bool
  | .accel | .run | .slow | .decel => true
  | .stopped | .brake => false

/-- The states in which the stall watch is active while the reference is above 0 (R15, R26). -/
def BeltState.stallWatched : BeltState → Bool
  | .accel | .run | .slow | .decel => true
  | .stopped | .brake => false

/-! ## Faults -/

/-- A source latched and unmasked. -/
def SourceState.acting (x : SourceState) : Bool := x.latched && !x.masked

/-- The order RECORD, RECOVER, HALT, STOP (Chapter 9, Action classes). -/
def ActionClass.rank : ActionClass → Nat
  | .record => 0
  | .recover => 1
  | .halt => 2
  | .stop => 3

/-- A lane-scoped source (R143). -/
def FaultSource.laneScoped : FaultSource → Bool
  | .divertMiss | .strayItem | .laneJam | .diverterOverrun => true
  | .linkFrame | .linkOverrun | .encoderPhase | .beltSlip | .encoderStall | .beltReverse | .estop
  | .poolExhausted | .entryJam | .shortItem | .gapShort => false

/-- A level source (R143, R144). -/
def FaultSource.isLevel : FaultSource → Bool
  | .estop | .entryJam | .laneJam => true
  | .linkFrame | .linkOverrun | .encoderPhase | .beltSlip | .encoderStall | .beltReverse
  | .poolExhausted | .shortItem | .gapShort | .divertMiss | .strayItem | .diverterOverrun => false

/-- Some unmasked source of class HALT or STOP is latched (R19, R28). -/
def State.stoppingFault (s : State) : Bool :=
  FaultSource.all.any fun f =>
    (s.source f).acting && ((s.source f).cls = .halt || (s.source f).cls = .stop)

/-- Some unmasked source is latched (R169). -/
def State.unmaskedLatched (s : State) : Bool :=
  FaultSource.all.any fun f => (s.source f).acting

/-- The lowest-numbered latched unmasked source (R148). -/
def State.lowestActing (s : State) : Option FaultSource :=
  FaultSource.all.find? fun f => (s.source f).acting

/-- The set of sources that satisfy `p`, bit n for source n (R187). -/
def State.sourceSet (s : State) (p : SourceState → Bool) : BitVec 16 :=
  FaultSource.all.foldl
    (fun acc f => if p (s.source f) then acc ||| (1#16 <<< f.idx.val) else acc) 0

/-- The set of latched sources. -/
def State.latchedSet (s : State) : BitVec 16 := s.sourceSet (·.latched)

/-- The set of masked sources. -/
def State.maskedSet (s : State) : BitVec 16 := s.sourceSet (·.masked)

/-- Induction is in JAMMED: ENTRY_JAM's condition (R36). -/
def State.entryJammed (s : State) : Bool := s.induction.measurement = .jammed

/-- The condition of a level source (R144); an edge source has none. -/
def State.conditionHolds (s : State) : FaultSource → Bool
  | .estop => s.accepted .emergencyStop
  | .entryJam => s.entryJammed
  | .laneJam => allLanes.any fun l => (s.lane l).jam
  | .linkFrame | .linkOverrun | .encoderPhase | .beltSlip | .encoderStall | .beltReverse
  | .poolExhausted | .shortItem | .gapShort | .divertMiss | .strayItem | .diverterOverrun => false

/-- The recovery-hold set (R28, R154). -/
def Infeed.holdSet (i : Infeed) : BitVec 16 :=
  (if i.holdPool then 1#16 <<< 7 else 0) ||| (if i.holdJam then 1#16 <<< 8 else 0)

/-! ## Infeed -/

/-- The infeed state: the first condition that holds (R27). -/
def State.infeedChoice (s : State) : InfeedState :=
  if s.infeed.enable = false then .off
  else if s.stoppingFault || s.infeed.holdPool || s.infeed.holdJam then .faultHold
  else if s.freeRecords < s.line.reserve then .poolHold
  else if s.infeed.gapRelease.isSome then .gapHold
  else if s.belt.state ≠ .run then .wait
  else .feeding

/-! ## Groups -/

/-- Lane membership of a group: group 7 holds every lane, the others the lanes whose slots name them
(R96). -/
def LaneUnit.memberOf (u : LaneUnit) (g : Fin 8) : Bool :=
  g.val = 7 || u.slots.toList.any fun x => x.map Fin.val = some g.val

/-- A group's members in lane order (R96). -/
def State.members (s : State) (g : Fin 8) : List LaneId :=
  allLanes.filter fun l => (s.lane l).memberOf g

/-- The set of groups a lane is a member of, group 7 included (R97, R190). -/
def LaneUnit.groupSet (u : LaneUnit) : BitVec 8 :=
  (List.finRange 8).foldl (fun acc g => if u.memberOf g then acc ||| (1#8 <<< g.val) else acc) 0

/-- A lane counts as open for the configuration check (R20). -/
def LaneUnit.enabledOrDraining (u : LaneUnit) : Bool := u.state = .enabled || u.state = .draining

/-! ## Link -/

/-- The places held of the reply queue (R179). -/
def State.placesHeld (s : State) : Nat := s.link.replies.length + s.tracking.fences.length

/-! ## Events -/

/-- The spacing is satisfied (R163). -/
def State.spacingSatisfied (s : State) : Bool := decide (s.events.spacing ≤ s.events.spacingTimer)

/-- The pairs in scan order: from the index after the cursor round to the cursor (R164). -/
def scanOrder (cursor : Fin 84) : List (Fin 84) :=
  (List.finRange 84).map fun k => cursor + 1 + k

/-- The pairs with a pending entry, in scan order (R164, R166). -/
def State.pendingPairs (s : State) : List (Fin 84) :=
  (scanOrder s.events.cursor).filter fun i => s.events.entries[i].isSome

/-- The number of pending entries. -/
def State.pendingCount (s : State) : Nat :=
  ((List.finRange 84).filter fun i => s.events.entries[i].isSome).length

/-- The event unit has an EVENT report ready (R164). -/
def State.eventReady (s : State) : Bool :=
  !s.events.hold && s.spacingSatisfied && decide (0 < s.pendingCount)

/-! ## Output pins (R15, R27, R169, R170; while reset is held, R191) -/

/-- The belt reference pin, in thousandths of a count per second. -/
def State.beltReferencePin (s : State) : Nat := if s.running then s.belt.reference else 0

/-- The brake output is on. -/
def State.brakePin (s : State) : Bool := !s.running || s.belt.state = .brake

/-- The extend output of lane `l`. -/
def State.extendPin (s : State) (l : LaneId) : Bool := s.running && (s.lane l).phase = .extend

/-- The retract output of lane `l`. -/
def State.retractPin (s : State) (l : LaneId) : Bool := s.running && (s.lane l).phase = .retract

/-- The infeed run output (R27). -/
def State.infeedRunPin (s : State) : Bool := s.running && s.infeed.state = .feeding

/-- The attention line is asserted (R169). -/
def State.attention (s : State) : Bool := s.unmaskedLatched || decide (0 < s.pendingCount)

/-- The level of the ATN pin: `true` for high (R170, R191). -/
def State.atnPin (s : State) : Bool :=
  if s.running then s.attention == s.events.activeHigh else true

end Sys2Proof.Machine
end

