-- ==== Sys2Proof/Machine/Ops.lean ====
section
/-! DEFINITION. The shared operations on one block of the state: writing a block, guards, events,
the infeed's choice, replies, reports, fences, fates, and the belt's stops. -/

namespace Sys2Proof.Machine

/-! ## Writing one block -/

/-- The state with `pending` replaced. -/
def State.setPending (s : State) (v : List Instr) : State := { s with pending := v }

/-- The state with `freeCount` replaced. -/
def State.setFreeCount (s : State) (v : Nat) : State := { s with freeCount := v }

/-- The state with `resetHold` replaced. -/
def State.setResetHold (s : State) (v : Option ResetCause) : State := { s with resetHold := v }

/-- The state with `position` replaced. -/
def State.setPosition (s : State) (v : PositionUnit) : State := { s with position := v }

/-- The state with `line` replaced. -/
def State.setLine (s : State) (v : LineConfig) : State := { s with line := v }

/-- The state with `belt` replaced. -/
def State.setBelt (s : State) (v : BeltDrive) : State := { s with belt := v }

/-- The state with `infeed` replaced. -/
def State.setInfeed (s : State) (v : Infeed) : State := { s with infeed := v }

/-- The state with `induction` replaced. -/
def State.setInduction (s : State) (v : Induction) : State := { s with induction := v }

/-- The state with `tracking` replaced. -/
def State.setTracking (s : State) (v : Tracking) : State := { s with tracking := v }

/-- The state with `routes` replaced. -/
def State.setRoutes (s : State) (v : RouteTable) : State := { s with routes := v }

/-- The state with `cursors` replaced. -/
def State.setCursors (s : State) (v : Vector LaneId 8) : State := { s with cursors := v }

/-- The state with `lanes` replaced. -/
def State.setLanes (s : State) (v : Vector LaneUnit 16) : State := { s with lanes := v }

/-- The state with `faults` replaced. -/
def State.setFaults (s : State) (v : FaultUnit) : State := { s with faults := v }

/-- The state with `events` replaced. -/
def State.setEvents (s : State) (v : EventUnit) : State := { s with events := v }

/-- The state with `link` replaced. -/
def State.setLink (s : State) (v : Link) : State := { s with link := v }

/-- The state with lane `l` replaced. -/
def State.setLane (s : State) (l : LaneId) (u : LaneUnit) : State :=
  s.setLanes (s.lanes.set l u)

/-- The state with source `f` replaced. -/
def State.setSource (s : State) (f : FaultSource) (x : SourceState) : State :=
  s.setFaults { s.faults with sources := s.faults.sources.set f.idx x }

/-- The state with sensor input `i` replaced. -/
def State.setSensor (s : State) (i : SensorInput) (x : SensorState) : State :=
  s.setPosition { s.position with sensors := s.position.sensors.set i.idx x }

/-- Lane `l` changed by `f`. -/
def modifyLane (l : LaneId) (f : LaneUnit → LaneUnit) (s : State) : State := s.setLane l (f (s.lane l))

/-- `f` for each lane, in lane order. -/
def forLanes (f : LaneId → State → State) (s : State) : State :=
  allLanes.foldl (fun t l => f l t) s

/-! ## Guards -/

/-- What a meaning answers with. -/
abbrev Result := Host.Outcome State Fault Refusal

/-- No input is acted on and no trigger or timer runs while reset is held (R191). -/
def whenRunning (s : State) (f : State → State) : State := if s.running then f s else s

/-- An occurrence whose condition does not hold is not taken (R7, log 1). -/
def whenDue (c : Bool) (f : State → State) (s : State) : State := if c && s.running then f s else s

/-! ## Triggers (R7) -/

/-- A trigger is armed at position `p`; where it is already reached it is to be taken at once. -/
def armAt (s : State) (p : Word) : Arm := if s.position.count.isReached p then .reached else .armed

/-- A trigger with its position, armed at `p`. -/
def triggerAt (s : State) (p : Word) : Trigger :=
  { pos := p, reached := s.position.count.isReached p }

/-- The forward step to count `c` reaches an armed trigger at `p`. -/
def Arm.step (a : Arm) (c p : Word) : Arm := if a = .armed ∧ c = p then .reached else a

/-- The forward step to count `c` reaches a trigger. -/
def Trigger.step (t : Trigger) (c : Word) : Trigger :=
  { t with reached := t.reached || decide (c = t.pos) }

/-! ## Events (R161) -/

/-- A pending entry after one more occurrence at belt count `pos`. -/
def nextEntry (old : Option EventEntry) (pos : Word) : EventEntry :=
  match old with
  | none => { count := 1, last := pos }
  | some e => { count := min 255 (e.count + 1), last := pos }

/-- An occurrence of pair `p` at belt count `pos` is handed to the event unit. -/
def handEvent (p : EventPair) (pos : Word) (s : State) : State :=
  if s.events.enabled[p.idx] then
    s.setEvents { s.events with
      entries := s.events.entries.set p.idx (some (nextEntry s.events.entries[p.idx] pos)) }
  else s

/-! ## The infeed's choice (R27, R32) -/

/-- The infeed chooses its state afresh, handing on INFEED_GO or INFEED_HOLD. -/
def chooseInfeed (s : State) : State :=
  let new := s.infeedChoice
  let old := s.infeed.state
  let s1 := s.setInfeed { s.infeed with state := new }
  if new = .feeding ∧ old ≠ .feeding then handEvent (.line .infeedGo) s.position.count s1
  else if new ≠ .feeding ∧ old = .feeding then handEvent (.line .infeedHold) s.position.count s1
  else s1

/-! ## Replies and reports -/

/-- A reply joins the tail of the reply queue (R179). -/
def queueReply (r : Reply) (s : State) : State :=
  s.setLink { s.link with replies := s.link.replies ++ [r] }

/-- The reply to the command frame `f` (R178). -/
def replyTo (f : Frame) (status : Status) (fields : List Byte) (s : State) : State :=
  queueReply { kind := replyKind f.kind, tag := f.tag, status, fields } s

/-- A report joins the tail of the item report queue (R180). -/
def queueItemReport (r : ItemReport) (s : State) : State :=
  s.setLink { s.link with itemReports := s.link.itemReports ++ [r] }

/-- The fault report queue after a report is made due: it replaces the waiting report of its source,
or joins the tail (R159). -/
def placeFaultReport (r : FaultReport) : List FaultReport → List FaultReport
  | [] => [r]
  | q :: qs => if q.source = r.source then r :: qs else q :: placeFaultReport r qs

/-! ## Fences (R139 to R141) -/

/-- The reply of a fence (R140): kind of FENCE plus 0x80, scope, boundary, covered and remaining. -/
def Fence.reply (f : Fence) (status : Status) : Reply :=
  { kind := replyKind 0x25, tag := f.tag, status,
    fields := f.scope.code :: (leBytes 2 f.boundary ++ [byteOf f.covered, byteOf f.remaining]) }

/-- A fence after the departure of `item` (R139). -/
def Fence.depart (f : Fence) (item : Nat) : Fence :=
  if atOrBefore item f.boundary then { f with remaining := f.remaining - 1 } else f

/-- Tracking tells the fence list that `item` has left the tracked stage (R139). -/
def fenceNotice (item : Nat) (s : State) : State :=
  let after := s.tracking.fences.map (·.depart item)
  let done := after.filter (fun f => f.remaining = 0)
  (s.setTracking { s.tracking with fences := after.filter (fun f => f.remaining ≠ 0) }).setLink
    { s.link with replies := s.link.replies ++ done.map (·.reply .ok) }

/-- Every outstanding fence is completed with ABORTED, in list order (R141). -/
def abortFences (s : State) : State :=
  (s.setTracking { s.tracking with fences := [] }).setLink
    { s.link with replies := s.link.replies ++ s.tracking.fences.map (·.reply .aborted) }

/-! ## Fates (R68, R71) -/

/-- The FATE report of a record with its fate (R71); a RUNOUT item's keeps its route index (log 32). -/
def Record.fateReport (r : Record) (fate : Fate) : FateReport :=
  { item := r.item, fate, lane := r.lane, reason := r.reason, route := r.route, key := r.key,
    decisionNumber := r.decisionNumber.getD 0, confirmOffset := r.confirmOffset }

/-- A record as it becomes fate-pending: its triggers are disarmed and no decision is due. -/
def Record.retire (r : Record) (fate : Fate) : Record :=
  { r with fate := some fate, decisionDue := false, decisionArm := .off, runoutArm := .off }

/-- The tracked record of `item` changed by `f`. -/
def modifyRecord (item : Nat) (f : Record → Record) (s : State) : State :=
  s.setTracking { s.tracking with
    list := s.tracking.list.map fun r => if r.item = item then f r else r }

/-- Giving a tracked record its fate (R68): it leaves the list, becomes fate-pending, its FATE report
is queued and the fence list is told. A notice that finds the record not tracked is ignored. -/
def giveFate (item : Nat) (fate : Fate) (offset : Option Int) (s : State) : State :=
  match s.tracked item with
  | none => s
  | some r =>
    let r1 := { r with confirmOffset := offset }
    fenceNotice item
      (queueItemReport (.fate (r1.fateReport fate))
        (s.setTracking { s.tracking with
          list := s.tracking.list.eraseP (fun x => x.item = item)
          fatePending := s.tracking.fatePending ++ [r1.retire fate] }))

/-- A record in RUNOUT (R63, R64); its route index is kept (log 32). -/
def Record.toRunout (r : Record) (reason : Reason) (arm : Arm) : Record :=
  { r with state := .runout, reason := some reason, lane := none, firePos := none, runoutArm := arm }

/-- A tracked item enters RUNOUT with a reason: its lane and fire position are cleared and its
run-out trigger armed, and taken at once where already reached (R63 to R65). -/
def enterRunout (item : Nat) (reason : Reason) (s : State) : State :=
  match s.tracked item with
  | none => s
  | some r =>
    let arm := armAt s r.runoutPoint
    let s1 := modifyRecord item (·.toRunout reason arm) s
    if arm = .reached then giveFate item .passedEnd none s1 else s1

/-! ## Belt stops (R23, R24) -/

/-- Entry to DECEL: the reference is kept, the target is 0, the standstill timer starts (R15, R17). -/
def enterDecel (s : State) : State :=
  chooseInfeed (s.setBelt { s.belt with state := .decel, target := 0, standstillTimer := 0 })

/-- Entry to BRAKE: the reference is 0 at once, the standstill timer starts (R23). -/
def enterBrake (s : State) : State :=
  chooseInfeed
    (s.setBelt { s.belt with state := .brake, target := 0, reference := 0, standstillTimer := 0 })

/-- BELT_STOP RAMPED and the HALT action (R23, R24). -/
def beltHalt (s : State) : State :=
  match s.belt.state with
  | .accel | .run | .slow => enterDecel s
  | .stopped | .decel | .brake => s

/-- BELT_STOP IMMEDIATE and the STOP action (R23, R24). -/
def beltBrake (s : State) : State :=
  match s.belt.state with
  | .brake => s
  | .stopped | .accel | .run | .slow | .decel => enterBrake s

/-- Entry to RUN at the target: AT_SPEED is handed on and the infeed is told (R16, R22, R31). -/
def enterRun (s : State) : State :=
  chooseInfeed
    (handEvent (.line .atSpeed) s.position.count (s.setBelt { s.belt with state := .run }))

end Sys2Proof.Machine
end

