-- ==== Sys2Proof/Machine/LaneOps.lean ====
section
/-! DEFINITION. The lane unit's shared operations (07) and the purge (R69): phases, exits, closing,
the fence action, and what a purge does to lanes, records and fences. -/

namespace Sys2Proof.Machine

/-! ## The diverter's phases (R125, R126) -/

/-- The diverter enters SETTLE, or IDLE where the settle time is 0 (R125). -/
def LaneUnit.enterSettle (u : LaneUnit) : LaneUnit :=
  if u.geometry.settleTime = 0 then { u with phase := .idle, phaseTimer := 0, phaseLength := 0 }
  else { u with phase := .settle, phaseTimer := 0, phaseLength := u.geometry.settleTime }

/-- The diverter leaves EXTEND for RETRACT, or for the next phase where the retract time is 0; no
dwell-end trigger stays armed (R125, R126). -/
def LaneUnit.enterRetract (u : LaneUnit) : LaneUnit :=
  if u.geometry.retractTime = 0 then { u with dwellEnd := none }.enterSettle
  else { u with phase := .retract, phaseTimer := 0, phaseLength := u.geometry.retractTime,
                dwellEnd := none }

/-- An extension is cut short; a diverter in another phase is not touched (R126). -/
def LaneUnit.cutShort (u : LaneUnit) : LaneUnit := if u.phase = .extend then u.enterRetract else u

/-! ## Exits (R116, R118) -/

/-- The state a closing target names. -/
def ClosingTarget.state : ClosingTarget → LaneState
  | .disabled => .disabled
  | .fenced => .fenced

/-- The lane's state after its exit test: a DRAINING lane with an empty queue and its diverter out of
EXTEND is DISABLED, a CLOSING lane with an empty queue is at its target (R116, R118). -/
def LaneUnit.exitState (u : LaneUnit) : LaneState :=
  match u.state with
  | .draining => if u.queue = [] ∧ u.phase ≠ .extend then .disabled else .draining
  | .closing t => if u.queue = [] then t.state else .closing t
  | .enabled => .enabled
  | .disabled => .disabled
  | .fenced => .fenced

/-- The lane tests its exit; a DRAINING lane that becomes DISABLED hands on DRAINED (R116, R118). -/
def testExit (l : LaneId) (s : State) : State :=
  let u := s.lane l
  let s1 := s.setLane l { u with state := u.exitState }
  if u.state = .draining ∧ u.exitState = .disabled then
    handEvent (.lane l .drained) s.position.count s1
  else s1

/-- A lane is handed a STOP action's retract request (R126, R152). -/
def retractRequest (l : LaneId) (s : State) : State :=
  if (s.lane l).phase = .extend then testExit l (modifyLane l (·.cutShort) s) else s

/-! ## Closing (R117, R119) -/

/-- Every RESERVED entry is withdrawn, oldest first (R117, R63). -/
def withdrawReserved (l : LaneId) (s : State) : State :=
  let u := s.lane l
  (u.queue.filter (fun e => !e.diverting)).foldl (fun t e => enterRunout e.item .withdrawn t)
    (s.setLane l { u with queue := u.queue.filter (·.diverting) })

/-- The lane enters CLOSING with a target (R117, R118). -/
def enterClosing (l : LaneId) (target : ClosingTarget) (s : State) : State :=
  testExit l
    (modifyLane l (·.cutShort)
      (withdrawReserved l (modifyLane l (fun u => { u with state := .closing target }) s)))

/-- The lane takes the fence action (R119). -/
def fenceLane (l : LaneId) (s : State) : State :=
  match (s.lane l).state with
  | .enabled | .draining => enterClosing l .fenced s
  | .closing _ => modifyLane l (fun u => { u with state := .closing .fenced }) s
  | .disabled => modifyLane l (fun u => { u with state := .fenced }) s
  | .fenced => s

/-! ## The purge (R69, R130, R141) -/

/-- A purge empties the lane's queue, cuts an extension short and tests the exit (R130). -/
def emptyLane (l : LaneId) (s : State) : State :=
  testExit l (modifyLane l (fun u => { u with queue := [] }.cutShort) s)

/-- Every tracked record is given fate PURGED in list order, and its FATE report queued. -/
def purgeRecords (s : State) : State :=
  (s.setTracking { s.tracking with
      list := []
      fatePending := s.tracking.fatePending ++ s.tracking.list.map (·.retire .purged) }).setLink
    { s.link with
      itemReports := s.link.itemReports ++
        s.tracking.list.map fun r => .fate (r.fateReport .purged) }

/-- A purge (R69): records, lane queues, then the fences, whose remaining counts stand as they were
when it began (R141). With an empty tracking list it aborts the fences and changes nothing else, as R69
says in its last sentence; where R126, R130 and R135 have an extension cut short even so, the STOP action's
retract requests and `clearTracks` do it (log 33). -/
def purge (s : State) : State :=
  abortFences (if s.tracking.list = [] then s else forLanes emptyLane (purgeRecords s))

end Sys2Proof.Machine
end

