-- ==== Sys2Proof/Machine/FaultOps.lean ====
section
/-! DEFINITION. The fault unit's shared operations (09): an occurrence, the class actions, the first
fault, the FAULT report and the re-latch of level sources. -/

namespace Sys2Proof.Machine

/-- A source set names source `f` (R187). -/
def inSourceSet (set : BitVec 16) (f : FaultSource) : Bool := set.getLsbD f.idx.val

/-- The lane set of the one lane `l`. -/
def laneBit (l : LaneId) : BitVec 16 := 1#16 <<< l.val

/-- One more occurrence counted, up to 255. -/
def SourceState.counted (x : SourceState) : SourceState := { x with count := min 255 (x.count + 1) }

/-- The first fault is captured where it is absent (R148). -/
def captureFirst (f : FaultSource) (s : State) : State :=
  s.setFaults { s.faults with first := s.faults.first <|> some f }

/-- The first fault is reselected where `gone` says that the present one was cleared or masked
(R148). -/
def reselectFirst (gone : FaultSource → Bool) (s : State) : State :=
  if s.faults.first.any gone then s.setFaults { s.faults with first := s.lowestActing } else s

/-- A FAULT report is formed from the source's state and made due (R159). -/
def reportDue (f : FaultSource) (s : State) : State :=
  let x := s.source f
  s.setLink { s.link with
    faultReports := placeFaultReport
      { source := f, count := x.count, cls := x.cls, first := decide (s.faults.first = some f),
        lane := if f.laneScoped then x.latchLane else none }
      s.link.faultReports }

/-- The fence action for each lane of a lane set, in lane order (R150). -/
def fenceLanes (set : BitVec 16) (s : State) : State :=
  forLanes (fun l t => if set.getLsbD l.val then fenceLane l t else t) s

/-- The recovery of a source (R150). -/
def recoverAction (f : FaultSource) (s : State) : State :=
  match f with
  | .poolExhausted => s.setInfeed { s.infeed with holdPool := true }
  | .entryJam => s.setInfeed { s.infeed with holdJam := true }
  | .divertMiss | .strayItem | .laneJam | .diverterOverrun => fenceLanes (s.source f).laneSet s
  | .linkFrame | .linkOverrun | .encoderPhase | .beltSlip | .encoderStall | .beltReverse | .estop
  | .shortItem | .gapShort => s

/-- The action of class STOP: brake, retract requests, purge (R152). -/
def stopAction (s : State) : State := purge (forLanes retractRequest (beltBrake s))

/-- The action of the source's class (R149 to R152). -/
def takeAction (f : FaultSource) (s : State) : State :=
  match (s.source f).cls with
  | .record => s
  | .recover => recoverAction f s
  | .halt => beltHalt s
  | .stop => stopAction s

/-- An unmasked source comes to act: first fault, action, FAULT report (R145 step 3, R156). -/
def actAndReport (f : FaultSource) (s : State) : State :=
  reportDue f (takeAction f (captureFirst f s))

/-- An occurrence of a source that is not latched (R145, R147). -/
def latchOccurrence (f : FaultSource) (lane : Option LaneId) (s : State) : State :=
  let x := s.source f
  let s1 := s.setSource f { x.counted with
    latched := true
    laneSet := (lane.map laneBit).getD x.laneSet
    latchLane := lane }
  chooseInfeed (if x.masked then s1 else actAndReport f s1)

/-- An occurrence of a source that is already latched (R146, R147). -/
def repeatOccurrence (f : FaultSource) (lane : Option LaneId) (s : State) : State :=
  let x := s.source f
  match lane with
  | none => s.setSource f x.counted
  | some l =>
    if f.laneScoped = false ∨ x.laneSet.getLsbD l.val = true then s.setSource f x.counted
    else
      let s1 := s.setSource f { x.counted with laneSet := x.laneSet ||| laneBit l }
      if x.masked = false ∧ x.cls = .recover then fenceLane l s1 else s1

/-- An occurrence of source `f`, naming a lane or none, is taken by the fault unit (R145 to R147). -/
def faultOccur (f : FaultSource) (lane : Option LaneId) (s : State) : State :=
  if (s.source f).latched then repeatOccurrence f lane s else latchOccurrence f lane s

/-- A level source whose condition holds latches as a new occurrence; LANE_JAM as one for each lane
whose jam flag is set, in lane order (R142, R144, R155 step 4). -/
def relatch (f : FaultSource) (s : State) : State :=
  if s.conditionHolds f then
    match f with
    | .laneJam =>
      forLanes (fun l t => if (t.lane l).jam then faultOccur .laneJam (some l) t else t) s
    | _ => faultOccur f none s
  else s

/-- The level sources of a set re-latch where their conditions hold, in source order. -/
def relatchSet (set : BitVec 16) (s : State) : State :=
  FaultSource.all.foldl (fun t f => if f.isLevel && inSourceSet set f then relatch f t else t) s

/-- A source as FAULT_CLEAR leaves it (R155 step 1). -/
def SourceState.cleared (x : SourceState) : SourceState :=
  { x with latched := false, count := 0, laneSet := 0, latchLane := none }

/-- Every source of a set changed by `g`. -/
def mapSources (set : BitVec 16) (g : SourceState → SourceState) (s : State) : State :=
  s.setFaults { s.faults with
    sources := Vector.ofFn fun i =>
      if set.getLsbD i.val then g s.faults.sources[i] else s.faults.sources[i] }

end Sys2Proof.Machine
end

