-- ==== Sys2Proof/Machine/Selector.lean ====
section
/-! DEFINITION. The route table's matching and overlap (05) and the selector's choice of a lane (06):
what a decision reads and what it finds, without changing the state. -/

namespace Sys2Proof.Machine

/-! ## Matching and overlap (R77, R79) -/

/-- Key `k` matches entry `e` under plan `p` (R77). -/
def RouteEntry.matchesKey (e : RouteEntry) (k : Key) (p : Fin 16) : Bool :=
  e.valid && decide (k &&& ~~~e.mask = e.key &&& ~~~e.mask) && (e.allPlans || decide (e.plan = p))

/-- The entry a key matches under a plan (R77, R78); at most one does (R79). -/
def RouteTable.lookup (t : RouteTable) (k : Key) (p : Fin 16) : Option (Fin 32) :=
  (List.finRange 32).find? fun i => t.entries[i].matchesKey k p

/-- Some key matches both entries under some plan, were both valid (R79). -/
def RouteEntry.overlaps (a b : RouteEntry) : Bool :=
  decide ((a.key ^^^ b.key) &&& ~~~(a.mask ||| b.mask) = 0) &&
    (a.allPlans || b.allPlans || decide (a.plan = b.plan))

/-- The lowest-numbered valid entry other than `except` that overlaps `e` (R81). -/
def RouteTable.conflict (t : RouteTable) (except : Fin 32) (e : RouteEntry) : Option (Fin 32) :=
  (List.finRange 32).find? fun i =>
    decide (i ≠ except) && t.entries[i].valid && t.entries[i].overlaps e

/-! ## Offers and searches (R100, R101, R120) -/

/-- The lane accepts an offered fire position (R120). -/
def LaneUnit.accepts (u : LaneUnit) (fire : Word) : Bool :=
  decide (u.state = .enabled) && !u.full && decide (u.queue.length < Config.laneQueueSize) &&
    match u.lastFire with
    | none => true
    | some p => decide ((u.geometry.pitch : Int) ≤ Word.diff fire p)

/-- The fire position offered to lane `l` for a lead position (R101). -/
def State.offerPosition (s : State) (lead : Word) (l : LaneId) : Word :=
  lead.plus (s.lane l).geometry.fireDistance

/-- Lane `l` accepts an item with this lead position (R101, R120). -/
def State.offerAccepted (s : State) (lead : Word) (l : LaneId) : Bool :=
  (s.lane l).accepts (s.offerPosition lead l)

/-- The members of a group in the order a search asks them: those above the cursor, then the rest
(R100). -/
def searchOrder (members : List LaneId) (cursor : LaneId) : List LaneId :=
  members.filter (fun l => cursor < l) ++ members.filter (fun l => l ≤ cursor)

/-- The lane a search of group `g` chooses (R100). -/
def State.search (s : State) (lead : Word) (g : Fin 8) : Option LaneId :=
  (searchOrder (s.members g) s.cursors[g]).find? (s.offerAccepted lead)

/-! ## The decision procedure (R103 to R109) -/

/-- What the selector hands back: the lane chosen, or none for a run-out, the reason, the route index
where an entry matched, and the group whose search chose the lane (R109, R99). -/
structure Placement where
  lane : Option LaneId
  reason : Reason
  route : Option (Fin 32)
  group : Option (Fin 8)
  deriving DecidableEq, Repr

/-- The reject lane as the last try (R108). -/
def State.rejectTry (s : State) (lead : Word) (route : Option (Fin 32)) : Placement :=
  match s.line.rejectLane with
  | some l =>
    if s.offerAccepted lead l then { lane := some l, reason := .reject, route, group := none }
    else { lane := none, reason := .overflow, route, group := none }
  | none => { lane := none, reason := .overflow, route, group := none }

/-- The overflow group, then the reject lane (R107, R108). -/
def State.overflowTry (s : State) (lead : Word) (route : Option (Fin 32)) : Placement :=
  match s.line.overflow.bind fun g => (s.search lead g).map fun l => (g, l) with
  | some (g, l) => { lane := some l, reason := .overflow, route, group := some g }
  | none => s.rejectTry lead route

/-- A group as the first target (R100, R105, R106). -/
def State.groupTry (s : State) (lead : Word) (g : Fin 8) (reason : Reason)
    (route : Option (Fin 32)) : Placement :=
  match s.search lead g with
  | some l => { lane := some l, reason, route, group := some g }
  | none => s.overflowTry lead route

/-- A lane as the first target (R101, R103, R106). -/
def State.laneTry (s : State) (lead : Word) (l : LaneId) (reason : Reason)
    (route : Option (Fin 32)) : Placement :=
  if s.offerAccepted lead l then { lane := some l, reason, route, group := none }
  else s.overflowTry lead route

/-- A fallback group as the first target, or no first target at all (R105, R106). -/
def State.fallbackTry (s : State) (lead : Word) (g : Option (Fin 8)) (reason : Reason) : Placement :=
  match g with
  | some g => s.groupTry lead g reason none
  | none => { lane := none, reason, route := none, group := none }

/-- A route entry's target as the first target (R106). -/
def State.targetTry (s : State) (lead : Word) (i : Fin 32) : Placement :=
  match s.routes.entries[i].target with
  | .lane l => s.laneTry lead l .routed (some i)
  | .group g => s.groupTry lead g .routed (some i)

/-- A keyed item that is looked up (R106). -/
def State.keyTry (s : State) (lead : Word) (k : Key) : Placement :=
  match s.routes.lookup k s.routes.plan with
  | some i => s.targetTry lead i
  | none => s.fallbackTry lead s.line.noRoute .noRoute

/-- The reject lane as a short-gap item's only target (R104). -/
def State.shortGapTry (s : State) (lead : Word) (l : LaneId) : Placement :=
  { lane := if s.offerAccepted lead l then some l else none, reason := .reject, route := none,
    group := none }

/-- The lane a short-gap item is sent straight to: the reject lane, where GAP_SHORT's class is
RECOVER (R104). -/
def State.shortGapLane (s : State) (shortGap : Bool) : Option LaneId :=
  if shortGap ∧ (s.source .gapShort).cls = .recover then s.line.rejectLane else none

/-- The decision procedure (R103 to R108). -/
def State.select (s : State) (r : Record) : Placement :=
  match r.directLane with
  | some l => s.laneTry r.lead l .direct none
  | none =>
    match s.shortGapLane r.shortGap with
    | some l => s.shortGapTry r.lead l
    | none =>
      match r.key with
      | some k => s.keyTry r.lead k
      | none => s.fallbackTry r.lead s.line.noRead .noRead

end Sys2Proof.Machine
end

