-- ==== Sys2Proof/Machine/TrackOps.lean ====
section
/-! DEFINITION. What the lanes' and tracking's triggers do (R53, R54, R123 to R129): fires, overruns,
dwell ends, misses, credits, and decisions. -/

namespace Sys2Proof.Machine

/-! ## Entries -/

/-- The queue entry of `item` changed by `f`. -/
def LaneUnit.modifyEntry (u : LaneUnit) (item : Nat) (f : Entry → Entry) : LaneUnit :=
  { u with queue := u.queue.map fun e => if e.item = item then f e else e }

/-- The queue entry of `item` removed; the others close up (R121). -/
def LaneUnit.removeEntry (u : LaneUnit) (item : Nat) : LaneUnit :=
  { u with queue := u.queue.filter fun e => e.item ≠ item }

/-- The oldest RESERVED entry. -/
def LaneUnit.oldestReserved (u : LaneUnit) : Option Entry := u.queue.find? fun e => !e.diverting

/-- The oldest DIVERTING entry whose window-close trigger is reached. -/
def LaneUnit.closedEntry (u : LaneUnit) : Option Entry :=
  u.queue.find? fun e => e.diverting && decide (e.closeArm = .reached)

/-- The window of an entry contains a stamp (R127). -/
def Entry.windowHas (e : Entry) (stamp : Word) : Bool :=
  decide (0 ≤ Word.diff stamp e.openPos) && decide (Word.diff stamp e.closePos < 0)

/-- The oldest DIVERTING entry whose window contains the stamp (R127). -/
def LaneUnit.creditedEntry (u : LaneUnit) (stamp : Word) : Option Entry :=
  u.queue.find? fun e => e.diverting && e.windowHas stamp

/-! ## Dwell end, miss, credit -/

/-- The dwell-end trigger is taken: EXTEND ends (R125); a DRAINING lane tests its exit (R116). -/
def takeDwellEnd (l : LaneId) (s : State) : State :=
  if (s.lane l).phase = .extend ∧ (s.lane l).dwellEnd.any (·.reached) = true then
    testExit l (modifyLane l (·.enterRetract) s)
  else s

/-- A miss (R129): the entry is removed, the item is MISSED, MISS is handed on, the exit is tested,
and DIVERT_MISS is raised; its action on the lane comes after the occurrence (R133). -/
def missEntry (l : LaneId) (e : Entry) (s : State) : State :=
  faultOccur .divertMiss (some l)
    (testExit l
      (handEvent (.lane l .miss) e.closePos
        (giveFate e.item .missed none (modifyLane l (·.removeEntry e.item) s))))

/-- The window-close trigger of the oldest entry that has reached its close is taken (R129). -/
def takeWindowClose (l : LaneId) (s : State) : State :=
  match (s.lane l).closedEntry with
  | some e => missEntry l e s
  | none => s

/-- An edge is credited to an entry (R127). -/
def creditEntry (l : LaneId) (e : Entry) (stamp : Word) (s : State) : State :=
  testExit l
    (handEvent (.lane l .confirm) stamp
      (giveFate e.item .diverted (some (Word.diff stamp e.firePos))
        (modifyLane l (·.removeEntry e.item) s)))

/-! ## Fire and overrun (R123, R124) -/

/-- An entry as its diverter fires: DIVERTING, its window-close trigger armed (R123). -/
def Entry.fired (e : Entry) (s : State) : Entry :=
  { e with diverting := true, fireArm := .off, closeArm := armAt s e.closePos }

/-- The lane as it fires for entry `e` (R123 steps 1, 2 and 4). -/
def LaneUnit.fire (u : LaneUnit) (e : Entry) (s : State) : LaneUnit :=
  { u.modifyEntry e.item (·.fired s) with
    phase := .extend, phaseTimer := 0, phaseLength := 0
    dwellEnd := some (triggerAt s (e.firePos.plus u.geometry.dwell)) }

/-- The window close of an entry that has just fired is taken at once where it is already reached
(R123). -/
def takeArmedClose (l : LaneId) (e : Entry) (s : State) : State :=
  if armAt s e.closePos = .reached then missEntry l e s else s

/-- The diverter fires for an entry; its own dwell end and window close are taken at once, after the fire,
where they are already reached, in the order of their arming (R123, R62; log 40). -/
def fireEntry (l : LaneId) (e : Entry) (s : State) : State :=
  takeArmedClose l e
    (takeDwellEnd l
      (modifyRecord e.item (fun r => { r with state := .diverting })
        (modifyLane l (fun u => u.fire e s) s)))

/-- An overrun (R124): the entry is removed, the item runs out, the exit is tested, and DIVERTER_OVERRUN is
raised; its action on the lane comes after the occurrence (R133). -/
def overrunEntry (l : LaneId) (e : Entry) (s : State) : State :=
  faultOccur .diverterOverrun (some l)
    (testExit l (enterRunout e.item .diverterBusy (modifyLane l (·.removeEntry e.item) s)))

/-- The fire trigger of the oldest RESERVED entry is taken where it is reached (R123, R124). -/
def takeFire (l : LaneId) (s : State) : State :=
  match (s.lane l).oldestReserved with
  | some e =>
    if e.fireArm = .reached then
      if (s.lane l).phase = .idle then fireEntry l e s else overrunEntry l e s
    else s
  | none => s

/-- A fire trigger already reached as it is armed is taken at once, behind those of older entries that
are reached (R7, R121, R123). -/
def takeArmedFire (l : LaneId) (fire : Word) (s : State) : State :=
  if armAt s fire = .reached then
    (List.range (s.lane l).queue.length).foldl (fun t _ => takeFire l t) s
  else s

/-! ## Decisions (R53 to R55, R109) -/

/-- An accepted reservation joins the lane's queue: the entry, the last fire position and its expiry
trigger (R121, R122). -/
def LaneUnit.reserve (u : LaneUnit) (item : Nat) (fire : Word) (s : State) : LaneUnit :=
  let expiry := armAt s (fire.plus Config.expiryDistance)
  { u with
    queue := u.queue ++
      [{ item, diverting := false, firePos := fire,
         openPos := fire.plus u.geometry.confirmOpen,
         closePos := fire.plus u.geometry.confirmClose,
         fireArm := armAt s fire, closeArm := .off }]
    lastFire := if expiry = .reached then none else some fire
    lastFireExpiry := if expiry = .reached then .off else .armed }

/-- One hit added to an entry, up to 65535 (R92). -/
def RouteEntry.hit (e : RouteEntry) : RouteEntry := { e with hits := min 65535 (e.hits + 1) }

/-- The entry that matched gains a hit (R78). -/
def countHit (route : Option (Fin 32)) (s : State) : State :=
  match route with
  | some i => s.setRoutes { s.routes with entries := s.routes.entries.set i s.routes.entries[i].hit }
  | none => s

/-- The cursor of the group whose search chose `l` (R99). -/
def moveCursor (group : Option (Fin 8)) (l : LaneId) (s : State) : State :=
  match group with
  | some g => s.setCursors (s.cursors.set g l)
  | none => s

/-- The decision counter advances (R55). -/
def advanceDecision (s : State) : State :=
  s.setTracking { s.tracking with decisionCounter := s.tracking.decisionCounter + 1 }

/-- A record as a decision leaves it, but for its lane (R54). -/
def Record.decided (r : Record) (number : BitVec 16) (p : Placement) : Record :=
  { r with decisionNumber := some number, decisionDue := false, decisionArm := .off,
           reason := some p.reason, route := p.route }

/-- The result of the selector is recorded (R54, R109, R121). -/
def recordPlacement (item : Nat) (lead : Word) (p : Placement) (s : State) : State :=
  let number := s.tracking.decisionCounter
  match p.lane with
  | some l =>
    let fire := s.offerPosition lead l
    takeArmedFire l fire
      (modifyRecord item
        (fun r => { r.decided number p with
          state := .reserved, lane := some l, firePos := some fire })
        (moveCursor p.group l (modifyLane l (fun u => u.reserve item fire s) s)))
  | none => enterRunout item p.reason (modifyRecord item (·.decided number p) s)

/-- A decision is taken (R54). -/
def decideItem (r : Record) (s : State) : State :=
  let p := s.select r
  recordPlacement r.item r.lead p (countHit p.route (advanceDecision s))

/-- The oldest WAITING item's decision is taken where it is due (R53). -/
def decideOldest (s : State) : State :=
  match s.tracking.list.find? fun r => r.state = .waiting with
  | some r => if r.decisionDue then decideItem r s else s
  | none => s

/-- Due decisions that no WAITING item still precedes are taken in list order, up to the first WAITING
item whose decision is not due (R53). -/
def takeDueDecisions (s : State) : State :=
  (List.range s.tracking.list.length).foldl (fun t _ => decideOldest t) s

/-- Some item older than `item` is WAITING (R53). -/
def State.olderWaiting (s : State) (item : Nat) : Bool :=
  (s.tracking.list.takeWhile fun r => r.item ≠ item).any fun r => r.state = .waiting

/-- The decision trigger of a WAITING item is taken (R53): marked due, and the due decisions that no
WAITING item precedes are taken. -/
def takeDecision (item : Nat) (s : State) : State :=
  takeDueDecisions
    (modifyRecord item (fun r => { r with decisionArm := .off, decisionDue := true }) s)

end Sys2Proof.Machine
end

