-- ==== Sys2Proof/Machine/SensorOps.lean ====
section
/-! DEFINITION. What an accepted edge does at its owner (R10): induction and the infeed's gap-release
point (03, R30), the lane's confirm eye and full sensor (R127, R128, R131, R132), the emergency stop
(R13). -/

namespace Sys2Proof.Machine

/-! ## Induction's triggers (R36, R39) -/

/-- The jam trigger is taken: induction is JAMMED and ENTRY_JAM occurs (R36). -/
def takeJam (s : State) : State :=
  faultOccur .entryJam none
    (s.setInduction { s.induction with measurement := .jammed, jamTrigger := none })

/-- The jam trigger is armed, and taken at once where already reached (R35, R47). -/
def armJam (p : Word) (s : State) : State :=
  if armAt s p = .reached then takeJam s
  else s.setInduction { s.induction with jamTrigger := some { pos := p, reached := false } }

/-- The previous trail position is set with its expiry trigger (R39); an expiry already reached is
taken at once. -/
def setPrevTrail (stamp : Word) (s : State) : State :=
  if armAt s (stamp.plus Config.expiryDistance) = .reached then
    s.setInduction { s.induction with prevTrail := none, trailExpiry := .off }
  else s.setInduction { s.induction with prevTrail := some stamp, trailExpiry := .armed }

/-- The previous trail position is made absent and its expiry trigger disarmed (R49). -/
def dropPrevTrail (s : State) : State :=
  s.setInduction { s.induction with prevTrail := none, trailExpiry := .off }

/-! ## The infeed's gap-release point (R30) -/

/-- The gap-release point is set by a stamp of an accepted change to clear; a point already reached is
absent at once (R30). -/
def setGapRelease (stamp : Word) (s : State) : State :=
  let p := stamp.plus s.line.releaseGap
  s.setInfeed { s.infeed with
    gapRelease := if armAt s p = .reached then none else some { pos := p, reached := false } }

/-! ## The claim (R40 to R42, R45, R52) -/

/-- The item number after `n` (R42). -/
def nextNumber (n : Nat) : Nat := if n < 65535 then n + 1 else 1

/-- The record as induction sets it up (R41, R52). -/
def State.newRecord (s : State) (lead : Word) (length : Nat) (shortGap : Bool) : Record :=
  { item := s.induction.nextItem, lead, length, shortGap,
    decisionPoint := lead.plus s.line.decision, runoutPoint := lead.plus s.line.runout,
    decisionDue := false, key := none, directLane := none, state := .waiting,
    decisionNumber := none, lane := none, reason := none, route := none, firePos := none,
    fate := none, confirmOffset := none,
    decisionArm := armAt s (lead.plus s.line.decision), runoutArm := .off }

/-- A record is claimed for an item (R41, R42, R45): appended, announced, and the trail kept. -/
def claimRecord (lead stamp : Word) (length : Nat) (shortGap : Bool) (s : State) : State :=
  let r := s.newRecord lead length shortGap
  setPrevTrail stamp
    (queueItemReport (.inducted r.item lead length shortGap)
      ((s.setTracking { s.tracking with list := s.tracking.list ++ [r] }).setInduction
        { s.induction with nextItem := nextNumber s.induction.nextItem }))

/-- The claim with what follows it: a decision trigger already reached is taken (R41, R52). The infeed is
told of the new free count at the end of the edge (`entryClear`). -/
def induct (lead stamp : Word) (length : Nat) (shortGap : Bool) (s : State) : State :=
  let s1 := claimRecord lead stamp length shortGap s
  if armAt s (lead.plus s.line.decision) = .reached then takeDecision s.induction.nextItem s1 else s1

/-- The pool check: an item with no free record goes untracked (R40). -/
def checkPool (lead stamp : Word) (length : Nat) (shortGap : Bool) (s : State) : State :=
  if s.freeRecords = 0 then faultOccur .poolExhausted none (setPrevTrail stamp s)
  else induct lead stamp length shortGap s

/-- What the gap check finds (R39). -/
inductive GapResult where
  | discard | short | clear
  deriving DecidableEq, Repr

/-- The gap check (R39). -/
def State.gapResult (s : State) (lead : Word) : GapResult :=
  match s.induction.prevTrail with
  | none =>
    if s.tracking.list.getLast?.all fun r => decide (0 < Word.diff lead r.lead) then .clear
    else .discard
  | some t =>
    if Word.diff lead t ≤ 0 then .discard
    else if Word.diff lead t < s.line.minGap then .short
    else .clear

/-- The gap check and what follows it (R39, R40). -/
def checkGap (lead stamp : Word) (length : Nat) (s : State) : State :=
  match s.gapResult lead with
  | .discard => faultOccur .gapShort none s
  | .short => checkPool lead stamp length true (faultOccur .gapShort none s)
  | .clear => checkPool lead stamp length false s

/-- The length check and what follows it (R38). -/
def checkLength (lead stamp : Word) (s : State) : State :=
  let length := Word.diff stamp lead
  if length < s.line.minLength then faultOccur .shortItem none s
  else if (s.line.maxLength : Int) < length then faultOccur .entryJam none s
  else checkGap lead stamp length.toNat s

/-- The blockage ends: CLEAR, the jam trigger disarmed (R37, R38). -/
def endBlockage (s : State) : State :=
  s.setInduction { s.induction with measurement := .clear, jamTrigger := none }

/-! ## Edges at their owners (R10) -/

/-- An accepted change of the entry eye to blocked (R35). -/
def entryBlocked (stamp : Word) (s : State) : State :=
  match s.induction.measurement with
  | .clear =>
    armJam (stamp.plus (s.line.maxLength + 1))
      (s.setInduction { s.induction with measurement := .measuring stamp })
  | .measuring _ | .jammed | .unmeasured _ => s

/-- What induction makes of an accepted change of the entry eye to clear (R37, R38). -/
def endMeasurement (stamp : Word) (s : State) : State :=
  match s.induction.measurement with
  | .measuring lead => checkLength lead stamp (endBlockage s)
  | .jammed | .unmeasured _ => endBlockage s
  | .clear => s

/-- An accepted change of the entry eye to clear (R30, R34): induction, then the gap-release point, and
then the infeed chooses by both, so that it hands on INFEED_GO or INFEED_HOLD only where FEEDING is entered
or left at the edge (R27). That induction comes before the point is the model's choice (log 39). -/
def entryClear (stamp : Word) (s : State) : State :=
  chooseInfeed (setGapRelease stamp (endMeasurement stamp s))

/-- The jam timer starts on a blocked edge where the jam watch is enabled (R132). -/
def LaneUnit.startJam (u : LaneUnit) : LaneUnit :=
  if u.configured ∧ u.geometry.jamTime ≠ 0 then { u with jamTimer := some 0, jamDue := false } else u

/-- The jam timer stops and the jam flag is cleared (R132). -/
def LaneUnit.endJam (u : LaneUnit) : LaneUnit :=
  { u with jamTimer := none, jamDue := false, jam := false }

/-- An accepted confirm-eye edge (R113, R127, R128, R132). -/
def confirmEdge (l : LaneId) (blocked : Bool) (stamp : Word) (s : State) : State :=
  if blocked then
    let s1 := modifyLane l (·.startJam) s
    if (s.lane l).configured then
      match (s.lane l).creditedEntry stamp with
      | some e => creditEntry l e stamp s1
      | none => faultOccur .strayItem (some l) s1
    else s1
  else modifyLane l (·.endJam) s

/-- The lane becomes FULL and hands FULL on (R131). -/
def becomeFull (l : LaneId) (s : State) : State :=
  handEvent (.lane l .full) s.position.count
    (modifyLane l (fun u => { u with full := true, fullTimer := none, fullDue := false }) s)

/-- An accepted full-sensor edge (R131). -/
def fullEdge (l : LaneId) (active : Bool) (stamp : Word) (s : State) : State :=
  if active then
    if (s.lane l).geometry.fullDelay = 0 then becomeFull l s
    else modifyLane l (fun u => { u with fullTimer := some 0, fullDue := false }) s
  else
    let s1 := modifyLane l (fun u => { u with full := false, fullTimer := none, fullDue := false }) s
    if (s.lane l).full then handEvent (.lane l .free) stamp s1 else s1

/-- An accepted change of the emergency-stop line (R13). -/
def estopEdge (asserted : Bool) (s : State) : State :=
  if asserted then faultOccur .estop none s else s

/-- The accepted edge is handed to its owner (R10). -/
def handEdge (i : SensorInput) (level : Bool) (stamp : Word) (s : State) : State :=
  match i with
  | .entryEye => if level then entryBlocked stamp s else entryClear stamp s
  | .confirmEye l => confirmEdge l level stamp s
  | .fullSensor l => fullEdge l level stamp s
  | .emergencyStop => estopEdge level s

/-- A change of `i` is accepted: the accepted level changes, the candidate goes, and the edge is handed
on with its stamp (R9, R10). -/
def acceptEdge (i : SensorInput) (stamp : Word) (s : State) : State :=
  let level := !(s.sensor i).accepted
  handEdge i level stamp
    (s.setSensor i { s.sensor i with accepted := level, candidate := none })

/-- The candidate of `i` is accepted where it has held for the filter time (R9). -/
def acceptDue (i : SensorInput) (s : State) : State :=
  match (s.sensor i).candidate with
  | some c => if c.due then acceptEdge i c.stamp s else s
  | none => s

/-- The sensor inputs in input order (R190). -/
def SensorInput.all : List SensorInput :=
  .entryEye :: (allLanes.map .confirmEye ++ allLanes.map .fullSensor ++ [.emergencyStop])

/-- Every standing candidate is accepted at once: the filter time became 0 (R11). The order, that of the
inputs with the emergency stop last, is the model's choice (log 38). -/
def acceptAll (s : State) : State :=
  SensorInput.all.foldl
    (fun t i => match (t.sensor i).candidate with
      | some c => acceptEdge i c.stamp t
      | none => t) s

end Sys2Proof.Machine
end

