-- ==== Sys2Proof/Machine/FrameOps.lean ====
section
/-! DEFINITION. The interpreter (R177): taking the frame at the head of the command queue, checking its
payload, and the reply fields that several commands share (R190). -/

namespace Sys2Proof.Machine

/-! ## Taking a frame (R177) -/

/-- The interpreter may take a frame of which `p` holds: reset is not held, fewer than 8 places are
held, and such a frame stands at the head of the command queue (R177, R179). -/
def State.canTake (s : State) (p : Frame → Bool) : Bool :=
  s.running && decide (s.placesHeld < Config.interpreterPlaces) && s.link.commands.head?.any p

/-- The state with the head frame taken off the command queue (R177). -/
def takeHead (s : State) : State :=
  s.setLink { s.link with commands := s.link.commands.tail }

/-- The frame at the head is taken where `p` holds of it, and its command applied (R177, log 4). -/
def onFrame (p : Frame → Bool) (body : Frame → State → State) (s : State) : State :=
  if s.canTake p then
    match s.link.commands with
    | f :: _ => body f (takeHead s)
    | [] => s
  else s

/-- The frame at the head is of kind `k`. -/
def isKind (k : Byte) (f : Frame) : Bool := decide (f.kind = k)

/-- The payload is read; a payload of the wrong length or with a field out of range is answered
BAD_ARG, and nothing else changes (R177, R178). -/
def withArgs {α : Type} (parse : List Byte → Option α) (body : α → Frame → State → State)
    (f : Frame) (s : State) : State :=
  match parse f.payload with
  | some x => body x f s
  | none => replyTo f .badArg [] s

/-- A command of kind `k` whose payload is read by `parse` (R177). -/
def onCommand {α : Type} (k : Byte) (parse : List Byte → Option α)
    (body : α → Frame → State → State) (s : State) : State :=
  onFrame (isKind k) (withArgs parse body) s

/-- The payload of a command with no fields (R177). -/
def parseNothing (p : List Byte) : Option Unit := lengthIs p 0

/-- A read form with an empty payload beside a write form (R18, R167). -/
def parseOrEmpty {α : Type} (parse : List Byte → Option α) (p : List Byte) : Option (Option α) :=
  if p = [] then some none else (parse p).map some

/-! ## Shared reply fields (R190) -/

/-- A set as a number: bit n for index n. -/
def setNumber {n : Nat} (p : Fin n → Bool) : Nat :=
  (List.finRange n).foldl (fun acc i => if p i then acc + 2 ^ i.val else acc) 0

/-- A 16-bit set. -/
def setBytes (set : BitVec 16) : List Byte := leBytes 2 set.toNat

/-- Pool use: tracked, fate-pending and free counts (R184). -/
def State.poolUse (s : State) : List Byte :=
  [byteOf s.tracking.list.length, byteOf s.tracking.fatePending.length, byteOf s.freeRecords]

/-- The first fault, or absent. -/
def State.firstFaultByte (s : State) : Byte := optFinByte (s.faults.first.map FaultSource.idx)

/-- The latched set and the first fault (R155, R158). -/
def State.latchedFields (s : State) : List Byte := setBytes s.latchedSet ++ [s.firstFaultByte]

/-- A fate-pending record's fate code. -/
def Record.fateByte (r : Record) : Byte := optCode Fate.code r.fate

/-- An item's state, or for a fate-pending item its fate; absent for an unknown item (R56, R61, log 15). -/
def State.itemStateBytes (s : State) (item : Nat) : List Byte :=
  match s.tracked item, s.pendingRecord item with
  | some r, _ => [0, r.state.code]
  | none, some r => [1, r.fateByte]
  | none, none => [0xFF, 0xFF]

/-- An OK reply. -/
def replyOk (f : Frame) (fields : List Byte) (s : State) : State := replyTo f .ok fields s

end Sys2Proof.Machine
end

