-- ==== Sys2Proof/Machine/BeltCommands.lean ====
section
/-! DEFINITION. The belt and infeed commands (02): BELT_CONFIG, BELT_START, BELT_SPEED, BELT_STOP and
INFEED_SET. -/

namespace Sys2Proof.Machine

/-- BELT_CONFIG's four fields take effect together (R18). -/
def BeltDrive.configure (b : BeltDrive) (c : BeltSettings) : BeltDrive :=
  { b with accelRate := c.accelRate, decelRate := c.decelRate,
           deviationLimit := c.deviationLimit, stallTime := c.stallTime }

/-- BELT_CONFIG is answered (R18): a read, or a write in STOPPED. -/
def answerBeltConfig (c : Option BeltSettings) (f : Frame) (s : State) : State :=
  match c with
  | none => replyOk f s.belt.settingsBytes s
  | some c =>
    if s.belt.state = .stopped then
      replyOk f (s.belt.configure c).settingsBytes (s.setBelt (s.belt.configure c))
    else replyTo f .badState [] s

/-- BELT_CONFIG (R18). -/
def execBeltConfig (s : State) : Result :=
  .next (onCommand 0x10 (parseOrEmpty parseBeltConfig) answerBeltConfig s)

/-! ## The configuration check (R20) -/

/-- A failed check as a BAD_STATE reply names it (R190). -/
structure FailedCheck where
  code : Byte
  lane : Option LaneId
  group : Option (Fin 8)
  deriving DecidableEq, Repr

/-- The three bytes of a failed check (R190). -/
def FailedCheck.bytes (c : FailedCheck) : List Byte :=
  [c.code, optFinByte c.lane, optFinByte c.group]

/-- Item DECISION_LENGTH (R20). -/
def State.checkDecisionLength (s : State) : Option FailedCheck :=
  if s.line.maxLength ≤ s.line.decision then none else some { code := 0, lane := none, group := none }

/-- A lane's fire distance is greater than the decision distance (R20, R115). -/
def State.fireDistanceOk (s : State) (l : LaneId) : Bool :=
  decide (s.line.decision < (s.lane l).geometry.fireDistance)

/-- A lane's window closes before the run-out distance (R20, R115). -/
def State.confirmCloseOk (s : State) (l : LaneId) : Bool :=
  decide ((s.lane l).geometry.fireDistance + (s.lane l).geometry.confirmClose < s.line.runout)

/-- Item FIRE_DISTANCE (R20). -/
def State.checkFireDistance (s : State) : Option FailedCheck :=
  (allLanes.find? fun l => (s.lane l).enabledOrDraining && !s.fireDistanceOk l).map
    fun l => { code := 1, lane := some l, group := none }

/-- Item CONFIRM_CLOSE (R20). -/
def State.checkConfirmClose (s : State) : Option FailedCheck :=
  (allLanes.find? fun l => (s.lane l).enabledOrDraining && !s.confirmCloseOk l).map
    fun l => { code := 2, lane := some l, group := none }

/-- Item REJECT_LANE (R20). -/
def State.checkRejectLane (s : State) : Option FailedCheck :=
  (s.line.rejectLane.filter fun l => !(s.lane l).configured).map
    fun l => { code := 3, lane := some l, group := none }

/-- Item FALLBACK_LANE for one group (R20). -/
def State.checkFallback (s : State) (g : Fin 8) : Option FailedCheck :=
  ((s.members g).find? fun l => !(s.lane l).configured).map
    fun l => { code := 4, lane := some l, group := some g }

/-- Item FALLBACK_LANE (R20). -/
def State.checkFallbacks (s : State) : Option FailedCheck :=
  [s.line.noRead, s.line.noRoute, s.line.overflow].findSome? fun g => g.bind s.checkFallback

/-- The configuration check: the first failure (R20). -/
def State.configurationCheck (s : State) : Option FailedCheck :=
  s.checkDecisionLength <|> s.checkFireDistance <|> s.checkConfirmClose <|> s.checkRejectLane <|>
    s.checkFallbacks

/-! ## Starting, speed, stopping -/

/-- The belt drive as BELT_START sets it (R21). -/
def BeltDrive.start (b : BeltDrive) (speed : Nat) : BeltDrive :=
  { b with state := .accel, target := speed, reference := 0, referenceTravel := 0,
           measuredTravel := 0, deviation := 0, slipAbove := false, stallTimer := 0,
           stallRaised := false }

/-- BELT_START is answered: state, faults, configuration, taken (R19, R21). -/
def answerBeltStart (speed : Nat) (f : Frame) (s : State) : State :=
  if s.belt.state ≠ .stopped then replyTo f .badState [] s
  else if s.stoppingFault then replyTo f .faultActive [] s
  else match s.configurationCheck with
    | some c => replyTo f .badState c.bytes s
    | none => replyOk f [] (s.setBelt (s.belt.start speed))

/-- BELT_START (R19 to R21). -/
def execBeltStart (s : State) : Result := .next (onCommand 0x11 parseSpeed answerBeltStart s)

/-- BELT_SPEED is taken in ACCEL, RUN or SLOW: the new target, and the state by comparing the reference
with it (R22). -/
def changeSpeed (speed : Nat) (s : State) : State :=
  let b := { s.belt with target := speed }
  if b.reference < b.targetThousandths then chooseInfeed (s.setBelt { b with state := .accel })
  else if b.targetThousandths < b.reference then
    chooseInfeed (s.setBelt { b with state := .slow })
  else if s.belt.state = .run then s.setBelt b
  else enterRun (s.setBelt b)

/-- BELT_SPEED is answered (R22). -/
def answerBeltSpeed (speed : Nat) (f : Frame) (s : State) : State :=
  match s.belt.state with
  | .accel | .run | .slow => replyOk f [] (changeSpeed speed s)
  | .stopped | .decel | .brake => replyTo f .badState [] s

/-- BELT_SPEED (R22). -/
def execBeltSpeed (s : State) : Result := .next (onCommand 0x12 parseSpeed answerBeltSpeed s)

/-- BELT_STOP in a mode (R23). -/
def stopBelt (m : StopMode) (s : State) : State :=
  match m with
  | .ramped => beltHalt s
  | .immediate => beltBrake s

/-- BELT_STOP is answered with the belt state after it (R23). -/
def answerBeltStop (m : StopMode) (f : Frame) (s : State) : State :=
  replyOk f [(stopBelt m s).belt.state.code] (stopBelt m s)

/-- BELT_STOP (R23). -/
def execBeltStop (s : State) : Result := .next (onCommand 0x13 parseStopMode answerBeltStop s)

/-- The enable flag is set and the infeed chooses its state (R33). -/
def setInfeedEnable (on : Bool) (s : State) : State :=
  chooseInfeed (s.setInfeed { s.infeed with enable := on })

/-- INFEED_SET (R33): the reply carries the infeed state that results, and not the enable flag (log 35). -/
def execInfeedSet (s : State) : Result :=
  .next (onCommand 0x18 parseEnable (fun on f s =>
    replyOk f [(setInfeedEnable on s).infeed.state.code] (setInfeedEnable on s)) s)

end Sys2Proof.Machine
end

