-- ==== Sys2Proof/Machine/EventCommands.lean ====
section
/-! DEFINITION. The event commands (10): EVENT_ENABLE, EVENT_READ and REPORT_SET. -/

namespace Sys2Proof.Machine

/-! ## EVENT_ENABLE (R162) -/

/-- The event unit after an EVENT_ENABLE (R162). -/
def EventUnit.enable (e : EventUnit) (a : EnableArgs) : EventUnit :=
  { e with
    enabled := Vector.ofFn fun i => if a.names i then a.on else e.enabled[i]
    entries := Vector.ofFn fun i => if a.names i && !a.on then none else e.entries[i] }

/-- How many pending entries an EVENT_ENABLE removes (R162). -/
def EventUnit.removedBy (e : EventUnit) (a : EnableArgs) : Nat :=
  ((List.finRange 84).filter fun i => a.names i && !a.on && e.entries[i].isSome).length

/-- The enable matrix, eleven bytes (R190). -/
def EventUnit.matrixBytes (e : EventUnit) : List Byte :=
  leBytes 11 (setNumber fun i : Fin 84 => e.enabled[i])

/-- EVENT_ENABLE (R162): the reply carries the matrix and the number of entries removed. -/
def execEventEnable (s : State) : Result :=
  .next (onCommand 0x48 parseEventEnable (fun a f s =>
    replyOk f ((s.events.enable a).matrixBytes ++ [byteOf (s.events.removedBy a)])
      (s.setEvents (s.events.enable a))) s)

/-! ## EVENT_READ (R166) -/

/-- One pair's entry taken out, the cursor set to it. -/
def EventUnit.takeEntry (e : EventUnit) (i : Fin 84) : EventUnit :=
  { e with entries := e.entries.set i none, cursor := i }

/-- The bytes of a pair's pending entry (R190). -/
def EventUnit.entryBytes (e : EventUnit) (i : Fin 84) : List Byte :=
  match e.entries[i] with
  | some x => eventBytes i x.count x.last
  | none => []

/-- EVENT_READ is answered: up to the maximum of the pending entries leave in scan order (R166). -/
def answerEventRead (maximum : Nat) (f : Frame) (s : State) : State :=
  let taken := s.pendingPairs.take maximum
  let s1 := s.setEvents (taken.foldl EventUnit.takeEntry s.events)
  replyOk f ([byteOf taken.length, byteOf s1.pendingCount] ++ taken.flatMap s.events.entryBytes) s1

/-- EVENT_READ (R166). -/
def execEventRead (s : State) : Result :=
  .next (onCommand 0x49 parseEventRead answerEventRead s)

/-! ## REPORT_SET (R167) -/

/-- The fields of a REPORT_SET reply (R167). -/
def State.reportFields (s : State) : List Byte :=
  [byteOf s.events.spacing, flagByte s.events.hold, flagByte s.events.activeHigh,
   byteOf s.events.cursor.val, byteOf s.pendingCount]

/-- The event unit's settings after a REPORT_SET (R167). -/
def EventUnit.settings (e : EventUnit) (r : Option ReportSettings) : EventUnit :=
  match r with
  | none => e
  | some r => { e with spacing := r.spacing, hold := r.hold, activeHigh := r.activeHigh }

/-- REPORT_SET is answered with the fields in force (R167). -/
def answerReportSet (r : Option ReportSettings) (f : Frame) (s : State) : State :=
  let s1 := s.setEvents (s.events.settings r)
  replyOk f s1.reportFields s1

/-- REPORT_SET (R167). -/
def execReportSet (s : State) : Result :=
  .next (onCommand 0x4A (parseOrEmpty parseReportSet) answerReportSet s)

end Sys2Proof.Machine
end

