-- ==== Sys2Proof/Machine/FaultCommands.lean ====
section
/-! DEFINITION. The fault commands (09): FAULT_READ, FAULT_CLEAR, FAULT_MASK, FAULT_ACTION and
FAULT_INJECT. -/

namespace Sys2Proof.Machine

/-! ## FAULT_READ (R154) -/

/-- The record of one source in a FAULT_READ reply (R154, R190). -/
def State.sourceFields (s : State) (f : FaultSource) : List Byte :=
  let x := s.source f
  [flagByte x.latched, byteOf x.count, flagByte x.masked, x.cls.code, flagByte f.isLevel] ++
    if f.laneScoped then setBytes x.laneSet else []

/-- The fields of a FAULT_READ reply (R154). -/
def State.faultFields (s : State) : List Byte :=
  FaultSource.all.flatMap s.sourceFields ++
    (FaultSource.all.filter (·.isLevel)).map (fun f => flagByte (s.conditionHolds f)) ++
    [s.firstFaultByte] ++ setBytes s.infeed.holdSet

/-- FAULT_READ (R154). -/
def execFaultRead (s : State) : Result :=
  .next (onCommand 0x40 parseNothing (fun _ f s => replyOk f s.faultFields s) s)

/-! ## FAULT_CLEAR (R155) -/

/-- The recovery holds without the sources of a set (R28, R155 step 2). -/
def Infeed.removeHolds (i : Infeed) (set : BitVec 16) : Infeed :=
  { i with holdPool := i.holdPool && !inSourceSet set .poolExhausted
           holdJam := i.holdJam && !inSourceSet set .entryJam }

/-- Steps 1 to 3: the sources, the recovery holds, the first fault (R155). -/
def clearSources (set : BitVec 16) (s : State) : State :=
  let s1 := mapSources set SourceState.cleared s
  reselectFirst (inSourceSet set) (s1.setInfeed (s1.infeed.removeHolds set))

/-- FAULT_CLEAR of a source set (R155). -/
def clearFaults (set : BitVec 16) (s : State) : State :=
  chooseInfeed (relatchSet set (clearSources set s))

/-- FAULT_CLEAR (R155): the reply carries the latched set and the first fault after it. -/
def execFaultClear (s : State) : Result :=
  .next (onCommand 0x41 parseFaultClear (fun set f s =>
    replyOk f (clearFaults set s).latchedFields (clearFaults set s)) s)

/-! ## FAULT_MASK (R156) -/

/-- Step 1: the set-list becomes masked, and the first fault is reselected after all of them (R156). -/
def maskSources (set : BitVec 16) (s : State) : State :=
  reselectFirst (inSourceSet set) (mapSources set (fun x => { x with masked := true }) s)

/-- A source of the clear-list becomes unmasked; one that was masked and is latched comes to act
(R156). -/
def unmaskSource (f : FaultSource) (s : State) : State :=
  let x := s.source f
  let s1 := s.setSource f { x with masked := false }
  if x.masked && x.latched then actAndReport f s1 else s1

/-- Step 2: the clear-list, in source order (R156). -/
def unmaskSources (set : BitVec 16) (s : State) : State :=
  FaultSource.all.foldl (fun t f => if inSourceSet set f then unmaskSource f t else t) s

/-- FAULT_MASK of a set-list and a clear-list (R156). -/
def changeMasks (set clear : BitVec 16) (s : State) : State :=
  chooseInfeed (unmaskSources clear (maskSources set s))

/-- FAULT_MASK (R156): the reply carries the masks, the latched set and the first fault. That the masks
are one set of the masked sources is the model's reading of R190 (log 36). -/
def execFaultMask (s : State) : Result :=
  .next (onCommand 0x42 parseFaultMask (fun (set, clear) f s =>
    let s1 := changeMasks set clear s
    replyOk f (setBytes s1.maskedSet ++ s1.latchedFields) s1) s)

/-! ## FAULT_ACTION (R157) -/

/-- The class change raises the action of a source that acts (R157). -/
def State.raises (s : State) (src : FaultSource) (cls : ActionClass) : Bool :=
  (s.source src).acting && decide ((s.source src).cls.rank < cls.rank)

/-- The source's class becomes the given one; raised, its action is taken and a report made due
(R157). -/
def changeClass (src : FaultSource) (cls : ActionClass) (s : State) : State :=
  let s1 := s.setSource src { s.source src with cls := cls }
  chooseInfeed (if s.raises src cls then reportDue src (takeAction src s1) else s1)

/-- The fields of a FAULT_ACTION reply: source, class before, class now, action taken (R157, log 18). -/
def State.actionFields (s : State) (src : FaultSource) (cls : ActionClass) : List Byte :=
  [byteOf src.idx.val, (s.source src).cls.code, cls.code, flagByte (s.raises src cls)]

/-- FAULT_ACTION (R157). -/
def execFaultAction (s : State) : Result :=
  .next (onCommand 0x43 parseFaultAction (fun (src, cls) f s =>
    replyOk f (s.actionFields src cls) (changeClass src cls s)) s)

/-! ## FAULT_INJECT (R158) -/

/-- Each named source is taken as an occurrence, in source order (R158). -/
def injectFaults (set : BitVec 16) (lane : Option LaneId) (s : State) : State :=
  FaultSource.all.foldl
    (fun t f => if inSourceSet set f then faultOccur f (if f.laneScoped then lane else none) t else t)
    s

/-- FAULT_INJECT (R158): the reply carries the latched set and the first fault after it. -/
def execFaultInject (s : State) : Result :=
  .next (onCommand 0x44 parseFaultInject (fun (set, lane) f s =>
    replyOk f (injectFaults set lane s).latchedFields (injectFaults set lane s)) s)

end Sys2Proof.Machine
end

