-- ==== Sys2Proof/Machine/General.lean ====
section
/-! DEFINITION. The general commands (11): BAD_KIND, IDENTIFY, STATUS and SOFT_RESET in its three
scopes. -/

namespace Sys2Proof.Machine

/-- A kind from 0x00 to 0x6F that names no command (R177). -/
def isUnknownKind (f : Frame) : Bool := isCommandKind f.kind && !commandKinds.contains f.kind

/-- BAD_KIND (R177). -/
def execBadKind (s : State) : Result :=
  .next (onFrame isUnknownKind (fun f s => replyTo f .badKind [] s) s)

/-- The bit rate in force (R172). -/
def rateByte (fast : Bool) : Byte := if fast then 1 else 0

/-- The fields of an IDENTIFY reply (R183). -/
def State.identifyFields (s : State) : List Byte :=
  leBytes 2 Config.vendorCode ++ leBytes 2 Config.partCode ++
    [byteOf Config.siliconRevision, rateByte s.link.fast]

/-- IDENTIFY (R183). -/
def execIdentify (s : State) : Result :=
  .next (onCommand 0x01 parseNothing (fun _ f s => replyOk f s.identifyFields s) s)

/-- The fields of a STATUS reply (R184). -/
def State.statusFields (s : State) : List Byte :=
  [s.belt.state.code] ++ wordBytes s.position.count ++ leBytes 4 s.belt.referenceSpeed ++
    signedBytes s.position.measuredSpeed ++ [s.infeed.state.code, flagByte s.infeed.enable] ++
    s.poolUse ++ [byteOf s.routes.plan.val, byteOf s.tracking.fences.length] ++
    setBytes s.latchedSet ++ setBytes s.maskedSet ++ [s.firstFaultByte, flagByte s.link.resetSeen]

/-- STATUS is answered, and the reset-seen flag it carried is cleared (R184). -/
def answerStatus (f : Frame) (s : State) : State :=
  replyOk f s.statusFields (s.setLink { s.link with resetSeen := false })

/-- STATUS (R184). -/
def execStatus (s : State) : Result :=
  .next (onCommand 0x02 parseNothing (fun _ f s => answerStatus f s) s)

/-! ## SOFT_RESET (R185) -/

/-- A SOFT_RESET frame of a scope, or one whose payload is refused (log 5). -/
def isSoftReset (scope : ResetScope) (f : Frame) : Bool :=
  isKind 0x03 f && (parseSoftReset f.payload).all fun x => decide (x = scope)

/-- The scope's code (R185). -/
def ResetScope.code : ResetScope → Byte
  | .track => 0
  | .events => 1
  | .config => 2

/-- The OK reply of a SOFT_RESET (R185). -/
def replyReset (scope : ResetScope) (f : Frame) (s : State) : State :=
  replyOk f (scope.code :: s.poolUse) s

/-- Scope TRACK at its blocks (R185): the purge (R69, R70), the lanes by their own table of the reset,
queues emptied and extensions cut short whether or not an item was tracked (R130, R135, log 33), and the
previous trail (R49). -/
def clearTracks (s : State) : State := dropPrevTrail (forLanes emptyLane (purge s))

/-- Scope TRACK, with the infeed as it leaves it (R33). -/
def resetTrack (s : State) : State := chooseInfeed (clearTracks s)

/-- Scope EVENTS: the pending entries and the spacing timer (R171). -/
def resetEvents (s : State) : State :=
  s.setEvents { s.events with entries := Vector.replicate 84 none, spacingTimer := 0 }

/-- The jam trigger is armed again for the maximum item length in force (R47). -/
def rearmJam (s : State) : State :=
  match s.induction.measurement with
  | .measuring lead => armJam (lead.plus (s.line.maxLength + 1)) s
  | .unmeasured entered => armJam (entered.plus (s.line.maxLength + 1)) s
  | .clear | .jammed => s

/-- The configuration of every block at the values of SOFT_RESET CONFIG (R15, R33, R46, R75, R99, R135,
R142, R171). -/
def resetConfiguration (s : State) : State :=
  ((((((((s.setLine LineConfig.reset).setBelt BeltDrive.reset).setInfeed
      { s.infeed with enable := false, holdPool := false, holdJam := false }).setRoutes
      RouteTable.reset).setCursors resetCursors).setLanes
      (Vector.ofFn fun l => LaneUnit.reset (s.accepted (.fullSensor l)))).setFaults
      FaultUnit.reset).setEvents { EventUnit.reset with spacingTimer := 0 })

/-- Scope CONFIG: the effects of TRACK and EVENTS, the configuration, the re-latch of level sources,
and what the new line configuration brings about (R47, R142, R185, log 19). -/
def resetConfig (s : State) : State :=
  chooseInfeed
    (rearmJam (relatchSet 0x7FFF (resetConfiguration (resetEvents (clearTracks s)))))

/-- SOFT_RESET_TRACK (R185). -/
def execSoftResetTrack (s : State) : Result :=
  .next (onFrame (isSoftReset .track)
    (withArgs parseSoftReset fun scope f s => replyReset scope f (resetTrack s)) s)

/-- SOFT_RESET_EVENTS (R171, R185). -/
def execSoftResetEvents (s : State) : Result :=
  .next (onFrame (isSoftReset .events)
    (withArgs parseSoftReset fun scope f s => replyReset scope f (resetEvents s)) s)

/-- SOFT_RESET_CONFIG (R185): admitted with the belt STOPPED. -/
def execSoftResetConfig (s : State) : Result :=
  .next (onFrame (isSoftReset .config)
    (withArgs parseSoftReset fun scope f s =>
      if s.belt.state = .stopped then replyReset scope f (resetConfig s)
      else replyTo f .badState [] s) s)

end Sys2Proof.Machine
end

