-- ==== Sys2Proof/Machine/Groups.lean ====
section
/-! DEFINITION. The selector's commands (06): GROUP_SET and GROUP_READ. -/

namespace Sys2Proof.Machine

/-- A lane's four slots and its groups (R97, R134). -/
def LaneUnit.slotFields (u : LaneUnit) : List Byte :=
  u.slots.toList.map optFinByte ++ [u.groupSet]

/-- GROUP_SET is answered: the four slots are replaced together (R97). -/
def answerGroupSet (l : LaneId) (slots : Vector (Option (Fin 7)) 4) (f : Frame) (s : State) : State :=
  let s1 := modifyLane l (fun u => { u with slots := slots }) s
  replyOk f (byteOf l.val :: (s1.lane l).slotFields) s1

/-- GROUP_SET (R97). -/
def execGroupSet (s : State) : Result :=
  .next (onCommand 0x30 parseGroupSet (fun (l, slots) f s => answerGroupSet l slots f s) s)

/-- The fields of a GROUP_READ reply (R98). -/
def State.groupFields (s : State) (g : Fin 8) : List Byte :=
  [byteOf g.val, byteOf (s.members g).length] ++ (s.members g).map (fun l => byteOf l.val) ++
    [byteOf s.cursors[g].val, flagByte (decide (s.line.noRead = some g)),
     flagByte (decide (s.line.noRoute = some g)), flagByte (decide (s.line.overflow = some g))]

/-- GROUP_READ (R98). -/
def execGroupRead (s : State) : Result :=
  .next (onCommand 0x31 parseGroup (fun g f s => replyOk f (s.groupFields g) s) s)

end Sys2Proof.Machine
end

