-- ==== Sys2Proof/Machine/LaneCommands.lean ====
section
/-! DEFINITION. The lane commands (07): LANE_CONFIG, LANE_STATE by its request, and LANE_READ. -/

namespace Sys2Proof.Machine

/-! ## LANE_CONFIG (R114) -/

/-- The lane's state admits a LANE_CONFIG (R114). -/
def LaneUnit.configurable (u : LaneUnit) : Bool :=
  decide (u.state = .disabled) || decide (u.state = .fenced)

/-- The jam watch under a new geometry: a lane jam time of 0 stops the timer and clears the flag
(R114). -/
def LaneUnit.rejudgeJam (u : LaneUnit) : LaneUnit := if u.geometry.jamTime = 0 then u.endJam else u

/-- A lane under a new geometry (R114, R122): timers keep their counts and are judged against it from the
next tick; one that has run out under the old geometry stays due (log 7). -/
def LaneUnit.configure (u : LaneUnit) (g : Geometry) : LaneUnit :=
  { u with geometry := g, configured := true, lastFire := none,
           lastFireExpiry := .off }.rejudgeJam

/-- A LANE_CONFIG in force; a full delay of 0 sets FULL at once where the sensor is active (R114,
R131). -/
def applyLaneConfig (l : LaneId) (g : Geometry) (s : State) : State :=
  let s1 := modifyLane l (·.configure g) s
  if g.fullDelay = 0 ∧ s.accepted (.fullSensor l) = true ∧ (s.lane l).full = false then
    becomeFull l s1
  else s1

/-- LANE_CONFIG is answered: lane state, belt state, taken (R114). -/
def answerLaneConfig (l : LaneId) (g : Geometry) (f : Frame) (s : State) : State :=
  if (s.lane l).configurable && decide (s.belt.state = .stopped) then
    replyOk f (byteOf l.val :: g.bytes) (applyLaneConfig l g s)
  else replyTo f .badState [] s

/-- LANE_CONFIG (R114). -/
def execLaneConfig (s : State) : Result :=
  .next (onCommand 0x38 parseLaneConfig (fun (l, g) f s => answerLaneConfig l g f s) s)

/-! ## LANE_STATE (R115 to R118) -/

/-- A LANE_STATE frame of a request, or one whose payload is refused (log 5). -/
def isLaneState (q : LaneRequest) (f : Frame) : Bool :=
  isKind 0x39 f && (parseLaneState f.payload).all fun x => decide (x.2 = q)

/-- The fields every LANE_STATE reply carries: lane, state, closing target, depth (R115). -/
def State.laneStateFields (s : State) (l : LaneId) : List Byte :=
  [byteOf l.val, (s.lane l).state.code, (s.lane l).state.targetByte,
   byteOf (s.lane l).queue.length]

/-- A LANE_STATE reply: those fields, then the ones of its case (R115, R190). -/
def replyLaneState (l : LaneId) (f : Frame) (status : Status) (more : List Byte) (s : State) :
    State :=
  replyTo f status (s.laneStateFields l ++ more) s

/-- The check ENABLE fails, by its code (R115, R190). -/
def State.enableCheck (s : State) (l : LaneId) : Option Byte :=
  if (s.lane l).configured = false then some 5
  else if s.fireDistanceOk l = false then some 1
  else if s.confirmCloseOk l = false then some 2
  else none

/-- The failed check as the reply names it; whether its lane byte names the lane is a free value
(log 14). -/
def enableCheckBytes (l : LaneId) (code : Byte) : List Byte :=
  FailedCheck.bytes
    { code, lane := if Config.enableCheckNamesLane then some l else none, group := none }

/-- ENABLE from DISABLED, FENCED or DRAINING: the checks, then ENABLED (R115). -/
def enableLane (l : LaneId) (f : Frame) (s : State) : State :=
  match s.enableCheck l with
  | some code => replyLaneState l f .badState (enableCheckBytes l code) s
  | none => replyLaneState l f .ok [] (modifyLane l (fun u => { u with state := .enabled }) s)

/-- ENABLE is answered by the lane state (R115). -/
def answerEnable (l : LaneId) (f : Frame) (s : State) : State :=
  match (s.lane l).state with
  | .disabled | .fenced | .draining => enableLane l f s
  | .enabled => replyLaneState l f .ok [] s
  | .closing _ => replyLaneState l f .badState [] s

/-- LANE_STATE_ENABLE (R115). -/
def execLaneStateEnable (s : State) : Result :=
  .next (onFrame (isLaneState .enable)
    (withArgs parseLaneState fun (l, _) f s => answerEnable l f s) s)

/-- The lane enters DRAINING and tests its exit (R116). -/
def drainLane (l : LaneId) (s : State) : State :=
  testExit l (modifyLane l (fun u => { u with state := .draining }) s)

/-- DRAIN is answered by the lane state (R116). -/
def answerDrain (l : LaneId) (f : Frame) (s : State) : State :=
  match (s.lane l).state with
  | .enabled => replyLaneState l f .ok [] (drainLane l s)
  | .draining => replyLaneState l f .ok [] s
  | .disabled | .fenced | .closing _ => replyLaneState l f .badState [] s

/-- LANE_STATE_DRAIN (R116). -/
def execLaneStateDrain (s : State) : Result :=
  .next (onFrame (isLaneState .drain)
    (withArgs parseLaneState fun (l, _) f s => answerDrain l f s) s)

/-- DISABLE by the lane state (R117). -/
def disableLane (l : LaneId) (s : State) : State :=
  match (s.lane l).state with
  | .enabled | .draining => enterClosing l .disabled s
  | .fenced => modifyLane l (fun u => { u with state := .disabled }) s
  | .disabled | .closing _ => s

/-- LANE_STATE_DISABLE (R117). -/
def execLaneStateDisable (s : State) : Result :=
  .next (onFrame (isLaneState .disable)
    (withArgs parseLaneState fun (l, _) f s => replyLaneState l f .ok [] (disableLane l s)) s)

/-! ## LANE_READ (R134) -/

/-- A queue entry's eleven bytes (R190). -/
def Entry.bytes (e : Entry) : List Byte :=
  leBytes 2 e.item ++ [if e.diverting then ItemState.code .diverting else ItemState.code .reserved] ++
    wordBytes e.firePos ++ wordBytes e.closePos

/-- The fields of a LANE_READ reply (R134). Each of the two accepted levels is carried as a flag byte,
the model's reading of R190 (log 37). -/
def State.laneFields (s : State) (l : LaneId) : List Byte :=
  let u := s.lane l
  [u.state.code, u.state.targetByte, flagByte u.configured] ++ u.geometry.bytes ++
    [byteOf u.queue.length] ++ u.queue.flatMap Entry.bytes ++ optWordBytes u.lastFire ++
    [u.phase.code, flagByte u.full, flagByte u.jam, flagByte (s.accepted (.confirmEye l)),
     flagByte (s.accepted (.fullSensor l))] ++ u.slotFields

/-- LANE_READ (R134). -/
def execLaneRead (s : State) : Result :=
  .next (onCommand 0x3A parseLane (fun l f s => replyOk f (s.laneFields l) s) s)

end Sys2Proof.Machine
end

