-- ==== Sys2Proof/Machine/Line.lean ====
section
/-! DEFINITION. LINE_CONFIG and LINE_READ (R46 to R48). -/

namespace Sys2Proof.Machine

/-- A LINE_CONFIG in force: candidates against a filter time of 0, the jam trigger, and the infeed's
choice by the new reserve (R11, R27, R46, R47). A standing candidate keeps its held count, and one that
has held for the old filter time stays due (log 7). That the edges accepted at once come before the jam
trigger is armed again is the model's choice (log 38). -/
def applyLineConfig (c : LineConfig) (s : State) : State :=
  let s1 := s.setLine c
  chooseInfeed (rearmJam (if c.filterTime = 0 then acceptAll s1 else s1))

/-- LINE_CONFIG (R46): range, belt state, taken. -/
def execLineConfig (s : State) : Result :=
  .next (onCommand 0x08 parseLineConfig (fun c f s =>
    if s.belt.state = .stopped then replyOk f c.bytes (applyLineConfig c s)
    else replyTo f .badState [] s) s)

/-- The accepted levels, five bytes (R190). -/
def State.levelBytes (s : State) : List Byte :=
  leBytes 5 (setNumber fun i : Fin 34 => s.position.sensors[i].accepted)

/-- The lead stamp, present in MEASURING only (R34). -/
def Measurement.leadStamp : Measurement → Option Word
  | .measuring lead => some lead
  | .clear | .jammed | .unmeasured _ => none

/-- The fields of a LINE_READ reply (R48). -/
def State.lineFields (s : State) : List Byte :=
  s.line.bytes ++ leBytes 2 Config.speedWindow ++ leBytes 2 s.position.reverseRun ++
    s.levelBytes ++ [s.induction.measurement.code] ++
    optWordBytes s.induction.measurement.leadStamp ++ optWordBytes s.induction.prevTrail ++
    leBytes 2 s.induction.nextItem

/-- LINE_READ (R48). -/
def execLineRead (s : State) : Result :=
  .next (onCommand 0x09 parseNothing (fun _ f s => replyOk f s.lineFields s) s)

end Sys2Proof.Machine
end

