-- ==== Sys2Proof/Machine/Link.lean ====
section
/-! DEFINITION. The link's rows (11) and the event unit's spacing row: RECEIVE_BYTE, BYTE_GAP_TIMEOUT,
ARBITER_TAKE, FRAME_SENT, SPACING_TIMER_EXPIRY. -/

namespace Sys2Proof.Machine

/-! ## Receiving (R174 to R176) -/

/-- The receiver in a given state. -/
def setReceiver (r : Receiver) (s : State) : State := s.setLink { s.link with receiver := r }

/-- The frame so far is discarded with one LINK_FRAME occurrence (R174). -/
def discardFrame (s : State) : State := faultOccur .linkFrame none (setReceiver .hunting s)

/-- The BUSY reply to a refused frame (R176). -/
def busyReply (f : Frame) : Reply :=
  { kind := replyKind f.kind, tag := f.tag, status := .busy, fields := [] }

/-- A command frame is queued, refused with BUSY, or lost (R176). -/
def queueCommand (f : Frame) (s : State) : State :=
  if s.link.commands.length < Config.commandQueueSize then
    s.setLink { s.link with commands := s.link.commands ++ [f] }
  else if s.placesHeld < Config.busyPlaces then
    faultOccur .linkOverrun none (queueReply (busyReply f) s)
  else faultOccur .linkOverrun none s

/-- A good frame is sorted by its KIND (R175). -/
def takeGoodFrame (f : Frame) (s : State) : State :=
  if isCommandKind f.kind then queueCommand f s else faultOccur .linkFrame none s

/-- A complete frame, given as the bytes after START: its CHECK is compared (R174). -/
def completeFrame (got : List Byte) (s : State) : State :=
  match got with
  | _ :: kind :: tag :: rest =>
    if got.getLast? = some (crc8 got.dropLast) then
      takeGoodFrame { kind, tag, payload := rest.dropLast } (setReceiver .hunting s)
    else discardFrame s
  | _ => discardFrame s

/-- A sound byte joins a frame being assembled (R174). -/
def extendFrame (got : List Byte) (byte : Byte) (s : State) : State :=
  match got with
  | [] =>
    if 2 ≤ byte.toNat ∧ byte.toNat ≤ 242 then setReceiver (.assembling [byte] 0) s
    else discardFrame s
  | length :: _ =>
    if got.length + 1 = length.toNat + 2 then completeFrame (got ++ [byte]) s
    else setReceiver (.assembling (got ++ [byte]) 0) s

/-- A received byte (R174). -/
def takeByte (byte : Byte) (stop : Bool) (s : State) : State :=
  match s.link.receiver with
  | .hunting => if stop ∧ byte = 0xA7 then setReceiver (.assembling [] 0) s else s
  | .assembling got _ => if stop then extendFrame got byte s else discardFrame s

/-- The byte-gap timer has reached its limit before the frame was complete (R174). -/
def State.gapTimedOut (s : State) : Bool :=
  match s.link.receiver with
  | .hunting => false
  | .assembling _ gap => decide (Config.byteGapLimit ≤ gap)

/-- The byte-gap timeout is taken where it is due (R174). -/
def takeGapTimeout (s : State) : State := if s.gapTimedOut then discardFrame s else s

/-- RECEIVE_BYTE (R174): a byte gap that has run out discards the frame before the byte is looked at. -/
def execReceiveByte (byte : Byte) (stop : Bool) (s : State) : Result :=
  .next (whenRunning s fun s => takeByte byte stop (takeGapTimeout s))

/-- BYTE_GAP_TIMEOUT (R174). -/
def execByteGapTimeout (s : State) : Result := .next (whenRunning s takeGapTimeout)

/-! ## Transmitting (R164, R181, R182) -/

/-- The EVENT report of the first pending entry after the scan cursor is formed and taken (R164). -/
def takeEventReport (s : State) : State :=
  match s.pendingPairs with
  | i :: _ =>
    match s.events.entries[i] with
    | some e =>
      (s.setEvents { s.events with entries := s.events.entries.set i none, cursor := i }).setLink
        { s.link with sending := some (.event { pair := i, count := e.count, last := e.last }) }
    | none => s
  | [] => s

/-- The arbiter takes the next frame by precedence (R181). -/
def takeFrame (s : State) : State :=
  match s.link.replies, s.link.itemReports, s.link.faultReports with
  | r :: rest, _, _ => s.setLink { s.link with replies := rest, sending := some (.reply r) }
  | [], r :: rest, _ => s.setLink { s.link with itemReports := rest, sending := some (.item r) }
  | [], [], r :: rest => s.setLink { s.link with faultReports := rest, sending := some (.fault r) }
  | [], [], [] => if s.eventReady then takeEventReport s else s

/-- ARBITER_TAKE (R181): with the transmitter idle. -/
def execArbiterTake (s : State) : Result := .next (whenDue s.link.sending.isNone takeFrame s)

/-- A fate-pending record becomes free (R44). -/
def freeRecord (item : Nat) (s : State) : State :=
  chooseInfeed (s.setTracking { s.tracking with
    fatePending := s.tracking.fatePending.filter fun r => r.item ≠ item })

/-- The transmitter becomes idle and the block concerned is told (R182). -/
def frameSent (f : OutFrame) (s : State) : State :=
  let s1 := s.setLink { s.link with sending := none }
  match f with
  | .item (.fate r) => freeRecord r.item s1
  | .event _ => s1.setEvents { s1.events with spacingTimer := 0 }
  | .reply _ | .item (.started _ _) | .item (.inducted _ _ _ _) | .fault _ => s1

/-- FRAME_SENT (R182). -/
def execFrameSent (s : State) : Result :=
  .next (whenRunning s fun s =>
    match s.link.sending with
    | some f => frameSent f s
    | none => s)

/-- SPACING_TIMER_EXPIRY (R163): the spacing comes to be satisfied. The condition is read from the
timer, so nothing is written (log 30). -/
def execSpacingTimerExpiry (s : State) : Result := .next s

end Sys2Proof.Machine
end

