-- ==== Sys2Proof/Machine/Position.lean ====
section
/-! DEFINITION. The position unit's rows (01): ENCODER_STEP, PHASE_ERROR, MEASURED_SPEED_UPDATE,
SENSOR_CHANGE and SENSOR_EDGE_ACCEPTED. -/

namespace Sys2Proof.Machine

/-! ## Decoding a sample (R2 to R5) -/

/-- What a sample decodes to. -/
inductive Decoded where
  | forward | backward | noStep | phaseError
  deriving DecidableEq, Repr

/-- A change of line A alone, to level `a`, with line B at level `b` (R2). -/
def decodeA (mode : EncoderMode) (a b : Bool) : Decoded :=
  match a, b with
  | true, false => .forward
  | false, false => .backward
  | false, true => if mode = .quadX1 then .noStep else .forward
  | true, true => if mode = .quadX1 then .noStep else .backward

/-- A change of line B alone, to level `b`, with line A at level `a` (R2). -/
def decodeB (mode : EncoderMode) (a b : Bool) : Decoded :=
  if mode = .quadX4 then (if a = b then .forward else .backward) else .noStep

/-- A sample in a quadrature mode under NORMAL direction (R2, R5). -/
def decodeQuad (mode : EncoderMode) (ref now : LevelPair) : Decoded :=
  if ref.a ≠ now.a then
    if ref.b ≠ now.b then .phaseError else decodeA mode now.a now.b
  else if ref.b ≠ now.b then decodeB mode now.a now.b
  else .noStep

/-- A sample in PULSE_UP_DOWN under NORMAL direction (R3). -/
def decodePulse (ref now : LevelPair) : Decoded :=
  match !ref.a && now.a, !ref.b && now.b with
  | true, false => .forward
  | false, true => .backward
  | true, true => .noStep
  | false, false => .noStep

/-- Count direction INVERTED exchanges forward and backward (R4). -/
def Decoded.invert : Decoded → Decoded
  | .forward => .backward
  | .backward => .forward
  | .noStep => .noStep
  | .phaseError => .phaseError

/-- A sample as the configuration decodes it (R2 to R5). -/
def LineConfig.decode (c : LineConfig) (ref now : LevelPair) : Decoded :=
  let d := if c.mode = .pulseUpDown then decodePulse ref now else decodeQuad c.mode ref now
  if c.inverted then d.invert else d

/-! ## Steps (R1, R7, R8, R12) -/

/-- A step is handed to the belt drive: measured travel, and both timers to 0 (R8, R17, R25, R26). -/
def BeltDrive.step (b : BeltDrive) (d : Word) : BeltDrive :=
  { b with measuredTravel := b.measuredTravel + d, standstillTimer := 0, stallTimer := 0,
           stallRaised := false }

/-- Induction's triggers at a forward step to `c` (R7, R35, R39). -/
def Induction.step (i : Induction) (c : Word) : Induction :=
  { i with
    jamTrigger := i.jamTrigger.map (·.step c)
    trailExpiry := match i.prevTrail with
      | some t => i.trailExpiry.step c (t.plus Config.expiryDistance)
      | none => i.trailExpiry }

/-- The infeed's trigger at a forward step to `c` (R7, R30). -/
def Infeed.step (i : Infeed) (c : Word) : Infeed :=
  { i with gapRelease := i.gapRelease.map (·.step c) }

/-- A record's triggers at a forward step to `c` (R7, R52, R64). -/
def Record.step (r : Record) (c : Word) : Record :=
  { r with decisionArm := r.decisionArm.step c r.decisionPoint
           runoutArm := r.runoutArm.step c r.runoutPoint }

/-- An entry's triggers at a forward step to `c` (R7, R121, R123). -/
def Entry.step (e : Entry) (c : Word) : Entry :=
  { e with fireArm := e.fireArm.step c e.firePos, closeArm := e.closeArm.step c e.closePos }

/-- A lane's triggers at a forward step to `c` (R7, R122, R123). -/
def LaneUnit.step (u : LaneUnit) (c : Word) : LaneUnit :=
  { u with
    queue := u.queue.map (·.step c)
    dwellEnd := u.dwellEnd.map (·.step c)
    lastFireExpiry := match u.lastFire with
      | some p => u.lastFireExpiry.step c (p.plus Config.expiryDistance)
      | none => u.lastFireExpiry }

/-- The armed triggers that a forward step to `c` reaches (R7). -/
def reachTriggers (c : Word) (s : State) : State :=
  ((((s.setInduction (s.induction.step c)).setInfeed (s.infeed.step c)).setTracking
    { s.tracking with list := s.tracking.list.map (·.step c) }).setLanes
      (Vector.ofFn fun i => s.lanes[i].step c))

/-- A forward step (R1, R7, R8, R12). -/
def forwardStep (s : State) : State :=
  let c := s.position.count + 1
  reachTriggers c
    ((s.setPosition { s.position with
        count := c, reverseRun := 0, netSteps := s.position.netSteps + 1 }).setBelt
      (s.belt.step 1))

/-- A backward step (R1, R8, R12). -/
def backwardStep (s : State) : State :=
  let s1 := (s.setPosition { s.position with
      count := s.position.count - 1
      reverseRun := min 65535 (s.position.reverseRun + 1)
      netSteps := s.position.netSteps - 1 }).setBelt (s.belt.step (-1))
  if s.position.reverseRun + 1 = s.line.reverseLimit then faultOccur .beltReverse none s1 else s1

/-- The encoder lines are sampled; the pair becomes the decoder reference (R2, R5). While reset is
held nothing is counted (R191). -/
def takeSample (now : LevelPair) (s : State) : State :=
  let s1 := s.setPosition { s.position with encoder := now }
  whenRunning s1 fun s1 =>
    match s.line.decode s.position.encoder now with
    | .forward => forwardStep s1
    | .backward => backwardStep s1
    | .noStep => s1
    | .phaseError => faultOccur .encoderPhase none s1

/-- ENCODER_STEP (R1, R2). -/
def execEncoderStep (a b : Bool) (s : State) : Result := .next (takeSample { a, b } s)

/-- PHASE_ERROR (R5): both lines differ from the reference. In PULSE_UP_DOWN it is that sample by
R3 (log 6). -/
def execPhaseError (s : State) : Result :=
  .next (takeSample { a := !s.position.encoder.a, b := !s.position.encoder.b } s)

/-- The measured speed over the last ten spans of ten ticks (R8). -/
def PositionUnit.windowSpeed (p : PositionUnit) : Int := 10 * p.history.sum

/-- MEASURED_SPEED_UPDATE (R8): taken once for each tenth tick. -/
def execMeasuredSpeedUpdate (s : State) : Result :=
  .next (whenDue s.position.speedDue (fun s =>
    s.setPosition { s.position with
      measuredSpeed := s.position.windowSpeed, speedDue := false }) s)

/-! ## Sensors (R9, R11) -/

/-- The sampled level meets the filter: a level back at the accepted one drops the candidate, another
forms one, or is accepted at once where the filter time is 0 (R9). -/
def filterLevel (i : SensorInput) (level : Bool) (s : State) : State :=
  let x := s.sensor i
  if level = x.accepted then s.setSensor i { x with candidate := none }
  else match x.candidate with
    | some _ => s
    | none =>
      if s.line.filterTime = 0 then acceptEdge i s.position.count s
      else s.setSensor i { x with
        candidate := some { stamp := s.position.count, held := 0, due := false } }

/-- SENSOR_CHANGE (R9): a candidate already held for the filter time is accepted first (log 7). While
reset is held only the pin changes (R191). -/
def execSensorChange (i : SensorInput) (level : Bool) (s : State) : Result :=
  let s1 := s.setSensor i { s.sensor i with raw := level }
  .next (whenRunning s1 fun s1 => filterLevel i level (acceptDue i s1))

/-- SENSOR_EDGE_ACCEPTED (R9, R10). -/
def execSensorEdgeAccepted (i : SensorInput) (s : State) : Result :=
  .next (whenRunning s (acceptDue i))

end Sys2Proof.Machine
end

