-- ==== Sys2Proof/Machine/Reset.lean ====
section
/-! DEFINITION. Pin reset: the rows POWER_ON, RESET_ASSERT and RESET_END (R186, R191, R192). -/

namespace Sys2Proof.Machine

/-- The link stops: a frame being received is lost without an occurrence, a frame being sent stops
where it stands (R186). -/
def stopLink (s : State) : State :=
  s.setLink { s.link with receiver := .hunting, sending := none }

/-- Reset is held with a cause (R191), and the ATN polarity is ACTIVE_LOW (R170). -/
def holdReset (cause : ResetCause) (s : State) : State :=
  stopLink ((s.setResetHold (some cause)).setEvents { s.events with activeHigh := false })

/-- POWER_ON (R186, R191): reset is held from power-on until the supply is sound. -/
def execPowerOn (s : State) : Result := .next (holdReset .powerOn s)

/-- RESET_ASSERT (R186, R191): the RESET pin is asserted; a hold that power-on began keeps its cause
(log 8). -/
def execResetAssert (s : State) : Result := .next (holdReset (s.resetHold.getD .pin) s)

/-- Every block at its starting value, taken from the pins as they stand (R1, R4, R11, R15, R33, R43,
R49, R70, R75, R99, R131, R135, R142, R171, R186). -/
def State.startUp (s : State) (cause : ResetCause) (fast : Bool) : State :=
  let raw := Vector.ofFn fun i => s.position.sensors[i].raw
  { pending := s.pending, freeCount := s.freeCount, resetHold := none,
    position := PositionUnit.reset s.position.encoder raw,
    line := LineConfig.reset, belt := BeltDrive.reset, infeed := Infeed.reset,
    induction := Induction.reset (s.sensor .entryEye).raw, tracking := Tracking.reset,
    routes := RouteTable.reset, cursors := resetCursors,
    lanes := Vector.ofFn fun l => LaneUnit.reset (s.sensor (.fullSensor l)).raw,
    faults := FaultUnit.reset, events := EventUnit.reset, link := Link.reset cause fast }

/-- Pin reset ends: starting values, then the level sources whose condition holds latch (R142,
R192). -/
def endReset (cause : ResetCause) (fast : Bool) (s : State) : State :=
  relatchSet 0x7FFF (s.startUp cause fast)

/-- RESET_END (R186). -/
def execResetEnd (fast : Bool) (s : State) : Result :=
  .next (match s.resetHold with
    | some cause => endReset cause fast s
    | none => s)

end Sys2Proof.Machine
end

