-- ==== Sys2Proof/Machine/Routes.lean ====
section
/-! DEFINITION. The route table's commands (05): ROUTE_WRITE, ROUTE_WRITE_NEXT, ROUTE_READ,
ROUTE_PROBE, ROUTE_CLEAR and PLAN_SELECT. -/

namespace Sys2Proof.Machine

/-- The entry at an index replaced. -/
def RouteTable.put (t : RouteTable) (i : Fin 32) (e : RouteEntry) : RouteTable :=
  { t with entries := t.entries.set i e }

/-- An OVERLAP reply names the lowest-numbered entry that overlaps (R81). -/
def replyOverlap (i : Fin 32) (f : Frame) (s : State) : State := replyTo f .overlap [byteOf i.val] s

/-- ROUTE_WRITE is answered: the overlap check, then the replacement (R81). -/
def answerRouteWrite (i : Fin 32) (e : RouteEntry) (f : Frame) (s : State) : State :=
  match s.routes.conflict i e with
  | some j => replyOverlap j f s
  | none => replyOk f (byteOf i.val :: e.bytes) (s.setRoutes (s.routes.put i e))

/-- ROUTE_WRITE (R80, R81). -/
def execRouteWrite (s : State) : Result :=
  .next (onCommand 0x28 parseRouteWrite (fun (i, e) f s => answerRouteWrite i e f s) s)

/-- The lowest-numbered invalid entry (R83 step 1). -/
def RouteTable.freeIndex (t : RouteTable) : Option (Fin 32) :=
  (List.finRange 32).find? fun i => !t.entries[i].valid

/-- The first unlocked entry from the cursor on (R83 step 2). -/
def RouteTable.unlockedIndex (t : RouteTable) : Option (Fin 32) :=
  ((List.finRange 32).map fun k => t.cursor + k).find? fun i => !t.entries[i].locked

/-- The index ROUTE_WRITE_NEXT chooses, and whether a valid entry is replaced (R83). -/
def RouteTable.nextIndex (t : RouteTable) : Option (Fin 32 × Bool) :=
  (t.freeIndex.map fun i => (i, false)) <|> (t.unlockedIndex.map fun i => (i, true))

/-- The table after a ROUTE_WRITE_NEXT: the cursor moves past a replaced valid entry (R84, R85). -/
def RouteTable.writeNext (t : RouteTable) (i : Fin 32) (replaced : Bool) (e : RouteEntry) :
    RouteTable :=
  { t.put i e with cursor := if replaced then i + 1 else t.cursor }

/-- ROUTE_WRITE_NEXT is answered (R83, R84). -/
def answerRouteWriteNext (e : RouteEntry) (f : Frame) (s : State) : State :=
  match s.routes.nextIndex with
  | none => replyTo f .full [] s
  | some (i, replaced) =>
    match s.routes.conflict i e with
    | some j => replyOverlap j f s
    | none =>
      replyOk f (byteOf i.val :: flagByte replaced :: e.bytes)
        (s.setRoutes (s.routes.writeNext i replaced e))

/-- ROUTE_WRITE_NEXT (R83, R84). -/
def execRouteWriteNext (s : State) : Result :=
  .next (onCommand 0x29 parseRouteWriteNext answerRouteWriteNext s)

/-- The set of entries that satisfy `p`, as a number (R88). -/
def RouteTable.entrySet (t : RouteTable) (p : RouteEntry → Bool) : Nat :=
  setNumber fun i : Fin 32 => p t.entries[i]

/-- How many entries satisfy `p`. -/
def RouteTable.countOf (t : RouteTable) (p : RouteEntry → Bool) : Nat :=
  ((List.finRange 32).filter fun i => p t.entries[i]).length

/-- The summary form of ROUTE_READ (R88). -/
def RouteTable.summary (t : RouteTable) : List Byte :=
  [byteOf t.plan.val, byteOf t.cursor.val, byteOf (t.countOf (·.valid)),
   byteOf (t.countOf fun e => e.valid && e.locked)] ++
    leBytes 4 (t.entrySet (·.valid)) ++ leBytes 4 (t.entrySet (·.locked))

/-- ROUTE_READ (R87, R88). -/
def execRouteRead (s : State) : Result :=
  .next (onCommand 0x2A parseRouteRead (fun i f s =>
    replyOk f (match i with
      | some i => s.routes.entries[i].bytes
      | none => s.routes.summary) s) s)

/-- ROUTE_PROBE is answered under the plan used (R86). -/
def answerRouteProbe (key : Key) (plan : Fin 16) (f : Frame) (s : State) : State :=
  match s.routes.lookup key plan with
  | some i =>
    replyOk f ([byteOf plan.val, byteOf i.val] ++ s.routes.entries[i].target.bytes) s
  | none => replyTo f .notFound [byteOf plan.val] s

/-- ROUTE_PROBE (R86). -/
def execRouteProbe (s : State) : Result :=
  .next (onCommand 0x2B parseRouteProbe (fun (key, plan) f s =>
    answerRouteProbe key (plan.getD s.routes.plan) f s) s)

/-- A scope names the entry at an index (R89, R90). -/
def ClearScope.names (c : ClearScope) (t : RouteTable) (i : Fin 32) : Bool :=
  match c with
  | .one j => decide (i = j)
  | .unlocked => t.entries[i].valid && !t.entries[i].locked
  | .every => true

/-- The table after a ROUTE_CLEAR (R89, R90). -/
def RouteTable.clear (t : RouteTable) (c : ClearScope) : RouteTable :=
  { t with entries := Vector.ofFn fun i =>
      if c.names t i then RouteEntry.cleared else t.entries[i] }

/-- The number of valid entries a ROUTE_CLEAR clears (R89, R90). -/
def RouteTable.clearCount (t : RouteTable) (c : ClearScope) : Nat :=
  ((List.finRange 32).filter fun i => c.names t i && t.entries[i].valid).length

/-- ROUTE_CLEAR (R89, R90). -/
def execRouteClear (s : State) : Result :=
  .next (onCommand 0x2C parseRouteClear (fun c f s =>
    replyOk f [byteOf (s.routes.clearCount c)] (s.setRoutes (s.routes.clear c))) s)

/-- PLAN_SELECT (R91): the reply carries the plan before and the plan now active. -/
def execPlanSelect (s : State) : Result :=
  .next (onCommand 0x2D parsePlan (fun p f s =>
    replyOk f [byteOf s.routes.plan.val, byteOf p.val] (s.setRoutes { s.routes with plan := p })) s)

end Sys2Proof.Machine
end

