-- ==== Sys2Proof/Machine/Tick.lean ====
section
/-! DEFINITION. The 1 ms tick and the belt drive's rows that no command gives: BELT_TICK, STANDSTILL,
ENCODER_STALL (R8, R9, R16, R17, R25, R26, R125, R131, R132, R163, R174; log 3). -/

namespace Sys2Proof.Machine

/-! ## Timers of the other blocks -/

/-- A candidate at a tick: the held count rises, and is judged against the filter time (R9). -/
def Candidate.tick (c : Candidate) (filterTime : Nat) : Candidate :=
  { c with held := c.held + 1, due := c.due || decide (filterTime ≤ c.held + 1) }

/-- The measured-speed window at a tick: every tenth one closes a span (R8). -/
def PositionUnit.tickSpeed (p : PositionUnit) : PositionUnit :=
  if p.tenth < 9 then { p with tenth := p.tenth + 1 }
  else { p with tenth := 0, speedDue := true, netSteps := 0,
                history := (p.netSteps :: p.history).take 10 }

/-- The position unit at a tick (R8, R9). -/
def PositionUnit.tick (p : PositionUnit) (filterTime : Nat) : PositionUnit :=
  { p.tickSpeed with
    sensors := Vector.ofFn fun i =>
      { p.sensors[i] with candidate := p.sensors[i].candidate.map (·.tick filterTime) } }

/-- A running timer one tick on, no further than `limit`. -/
def timerUp (limit : Nat) (t : Nat) : Nat := min limit (t + 1)

/-- A lane's timers at a tick (R125, R131, R132). -/
def LaneUnit.tick (u : LaneUnit) : LaneUnit :=
  let full := u.fullTimer.map (timerUp 2000)
  let jam := u.jamTimer.map (timerUp 10000)
  { u with
    phaseTimer := if u.phase = .retract ∨ u.phase = .settle then timerUp 255 u.phaseTimer
      else u.phaseTimer
    fullTimer := full
    fullDue := u.fullDue || full.any fun t => decide (u.geometry.fullDelay ≤ t)
    jamTimer := jam
    jamDue := u.jamDue || jam.any fun t => decide (u.geometry.jamTime ≤ t) }

/-- The receiver's byte-gap timer at a tick (R174). -/
def Receiver.tick : Receiver → Receiver
  | .hunting => .hunting
  | .assembling got gap => .assembling got (timerUp Config.byteGapLimit gap)

/-- Every timer outside the belt drive at a tick. -/
def tickTimers (s : State) : State :=
  (((s.setPosition (s.position.tick s.line.filterTime)).setLanes
      (Vector.ofFn fun i => s.lanes[i].tick)).setEvents
    { s.events with spacingTimer := timerUp 255 s.events.spacingTimer }).setLink
    { s.link with receiver := s.link.receiver.tick }

/-! ## The belt drive (R16, R17, R25, R26) -/

/-- The reference speed after a tick's ramp step (R16). A rate in counts per second per second is the
step in thousandths. -/
def BeltDrive.rampedReference (b : BeltDrive) : Nat :=
  match b.state with
  | .accel => min b.targetThousandths (b.reference + b.accelRate)
  | .slow | .decel => max b.targetThousandths (b.reference - b.decelRate)
  | .stopped | .run | .brake => b.reference

/-- Reference travel is kept modulo 2^32 counts, in millionths (R16). -/
def travelModulus : Nat := 4294967296 * 1000000

/-- The belt drive's ramp step and reference travel at a tick (R16). -/
def BeltDrive.ramp (b : BeltDrive) : BeltDrive :=
  { b with reference := b.rampedReference
           referenceTravel := (b.referenceTravel + b.rampedReference) % travelModulus }

/-- The stall timer at a tick (R26). -/
def BeltDrive.tickStall (b : BeltDrive) : BeltDrive :=
  if b.reference = 0 then { b with stallTimer := 0, stallRaised := false }
  else if b.state.stallWatched then { b with stallTimer := timerUp 2000 b.stallTimer }
  else b

/-- The standstill timer at a tick (R17). -/
def BeltDrive.tickStandstill (b : BeltDrive) : BeltDrive :=
  { b with standstillTimer := timerUp Config.standstillTime b.standstillTimer }

/-- The deviation (R25): reference travel in whole counts less measured travel. -/
def BeltDrive.newDeviation (b : BeltDrive) : Int :=
  Word.diff (BitVec.ofNat 32 (b.referenceTravel / 1000000)) b.measuredTravel

/-- The deviation's magnitude is above the limit; a limit of 0 disables the watch (R25). -/
def BeltDrive.aboveLimit (b : BeltDrive) : Bool :=
  decide (0 < b.deviationLimit) && decide (b.deviationLimit < b.newDeviation.natAbs)

/-- The belt drive's values at a tick, before any change of state (R16, R17, R26). -/
def BeltDrive.tick (b : BeltDrive) : BeltDrive := b.ramp.tickStall.tickStandstill

/-- The reference has reached the target in ACCEL or SLOW (R16). -/
def BeltDrive.atTarget (b : BeltDrive) : Bool :=
  (decide (b.state = .accel) || decide (b.state = .slow)) &&
    decide (b.reference = b.targetThousandths)

/-- The belt enters RUN where the reference has reached the target (R16). -/
def reachTarget (s : State) : State := if s.belt.atTarget then enterRun s else s

/-- The deviation is recomputed and watched (R25). -/
def watchSlip (s : State) : State :=
  if s.belt.state.deviationWatched then
    let above := s.belt.aboveLimit
    let s1 := s.setBelt { s.belt with deviation := s.belt.newDeviation, slipAbove := above }
    if above && !s.belt.slipAbove then faultOccur .beltSlip none s1 else s1
  else s

/-- The 1 ms tick: the timers, then the belt drive (log 12). -/
def tick (s : State) : State :=
  let s1 := tickTimers s
  watchSlip (reachTarget (s1.setBelt s1.belt.tick))

/-- BELT_TICK (R16). -/
def execBeltTick (s : State) : Result := .next (whenRunning s tick)

/-- Standstill ends the state: DECEL or BRAKE with the standstill timer at 100 (R17). -/
def BeltDrive.standstillDue (b : BeltDrive) : Bool :=
  decide (Config.standstillTime ≤ b.standstillTimer) &&
    (decide (b.state = .decel) || decide (b.state = .brake))

/-- The belt enters STOPPED at standstill (R17, R26). -/
def enterStopped (s : State) : State :=
  chooseInfeed
    (handEvent (.line .stopped) s.position.count
      (s.setBelt { s.belt with
        state := .stopped, target := 0, reference := 0, stallTimer := 0, stallRaised := false }))

/-- STANDSTILL (R17). -/
def execStandstill (s : State) : Result := .next (whenDue s.belt.standstillDue enterStopped s)

/-- The stall timer has reached the stall time, and the occurrence of this run has not been handed on
(R26). -/
def BeltDrive.stallDue (b : BeltDrive) : Bool :=
  decide (0 < b.stallTime) && decide (b.stallTime ≤ b.stallTimer) && !b.stallRaised &&
    b.state.stallWatched && decide (0 < b.reference)

/-- ENCODER_STALL (R26). -/
def execEncoderStall (s : State) : Result :=
  .next (whenDue s.belt.stallDue
    (fun s => faultOccur .encoderStall none (s.setBelt { s.belt with stallRaised := true })) s)

end Sys2Proof.Machine
end

