-- ==== Sys2Proof/Machine/Tracking.lean ====
section
/-! DEFINITION. The tracking commands (04, 08): ASSIGN, ASSIGN_LANE, CANCEL, TRACK_READ, ITEM_READ and
FENCE. -/

namespace Sys2Proof.Machine

/-! ## ASSIGN and ASSIGN_LANE (R56, R57) -/

/-- A reply that carries an item number and the item's state (R56). -/
def replyItem (f : Frame) (status : Status) (item : Nat) (s : State) : State :=
  replyTo f status (leBytes 2 item ++ s.itemStateBytes item) s

/-- A claim by the host on a WAITING item, answered by the record's state (R56, R57). -/
def claimWaiting (item : Nat) (change : Record → Record) (f : Frame) (s : State) : State :=
  match s.tracked item with
  | some r =>
    if r.state = .waiting then replyItem f .ok item (modifyRecord item change s)
    else replyItem f .tooLate item s
  | none => replyItem f (if (s.pendingRecord item).isSome then .tooLate else .notFound) item s

/-- ASSIGN (R56, R58). -/
def execAssign (s : State) : Result :=
  .next (onCommand 0x20 parseAssign (fun (item, key) f s =>
    claimWaiting item (fun r => { r with key := key, directLane := none }) f s) s)

/-- ASSIGN_LANE (R57, R58). -/
def execAssignLane (s : State) : Result :=
  .next (onCommand 0x21 parseAssignLane (fun (item, lane) f s =>
    claimWaiting item (fun r => { r with key := none, directLane := some lane }) f s) s)

/-! ## CANCEL (R59 to R61) -/

/-- A CANCEL reply: item number, no-change marker, state (R61). -/
def replyCancel (f : Frame) (status : Status) (item : Nat) (marker : Bool) (s : State) : State :=
  replyTo f status (leBytes 2 item ++ flagByte marker :: s.itemStateBytes item) s

/-- A CANCEL that does nothing and is refused: its marker is a free value (log 13). -/
def refuseCancel (f : Frame) (status : Status) (item : Nat) (s : State) : State :=
  replyCancel f status item (Config.cancelMarker s.freeCount) (s.setFreeCount (s.freeCount + 1))

/-- A WAITING item is decided by CANCEL, and the due decisions behind it are taken (R53, R59). -/
def cancelWaiting (item : Nat) (s : State) : State :=
  let s1 := advanceDecision s
  takeDueDecisions
    (enterRunout item .cancelled
      (modifyRecord item (fun r => { r with
        decisionNumber := some s1.tracking.decisionCounter, route := none, decisionDue := false
        decisionArm := .off }) s1))

/-- The RESERVED entry of `item` is removed from a lane's queue (R130). -/
def LaneUnit.removeReserved (u : LaneUnit) (item : Nat) : LaneUnit :=
  { u with queue := u.queue.filter fun e => !(decide (e.item = item) && !e.diverting) }

/-- The lane holds a RESERVED entry of `item` (R130). -/
def LaneUnit.holdsReserved (u : LaneUnit) (item : Nat) : Bool :=
  u.queue.any fun e => decide (e.item = item) && !e.diverting

/-- A RESERVED item's entry is removed at its lane, and the item runs out (R60, R130). -/
def cancelReserved (item : Nat) (l : LaneId) (s : State) : State :=
  enterRunout item .cancelled (testExit l (modifyLane l (·.removeReserved item) s))

/-- CANCEL of a RESERVED item, completed by the lane's answer (R60). -/
def answerCancelReserved (item : Nat) (lane : Option LaneId) (f : Frame) (s : State) : State :=
  match lane with
  | some l =>
    if (s.lane l).holdsReserved item then replyCancel f .ok item false (cancelReserved item l s)
    else refuseCancel f .tooLate item s
  | none => refuseCancel f .tooLate item s

/-- CANCEL is answered by the record's state (R59 to R61). -/
def answerCancel (item : Nat) (f : Frame) (s : State) : State :=
  match s.tracked item with
  | some r =>
    match r.state with
    | .waiting => replyCancel f .ok item false (cancelWaiting item s)
    | .reserved => answerCancelReserved item r.lane f s
    | .diverting => refuseCancel f .tooLate item s
    | .runout => replyCancel f .ok item true s
  | none =>
    refuseCancel f (if (s.pendingRecord item).isSome then .tooLate else .notFound) item s

/-- CANCEL (R59 to R61). -/
def execCancel (s : State) : Result := .next (onCommand 0x22 parseItem answerCancel s)

/-! ## TRACK_READ and ITEM_READ (R72, R73) -/

/-- The summary of a record (R72): ten bytes. -/
def Record.summary (r : Record) : List Byte :=
  leBytes 2 r.item ++ [r.state.code, flagByte r.decisionDue] ++ wordBytes r.lead ++
    [optFinByte r.lane, optCode Reason.code r.reason]

/-- The tracking list from the starting point of a TRACK_READ; `none` where the named record is not
tracked (R72). -/
def State.listFrom (s : State) (first : Option Nat) : Option (List Record) :=
  match first with
  | none => some s.tracking.list
  | some item =>
    match s.tracking.list.dropWhile fun r => r.item ≠ item with
    | [] => none
    | l => some l

/-- The fields of an OK reply to TRACK_READ (R72). -/
def State.trackFields (s : State) (from_ : List Record) (count : Nat) : List Byte :=
  let next := (from_.drop count).head?.map Record.item
  [byteOf s.tracking.list.length, byteOf (decidedPrefix s.tracking.list).length,
   byteOf (from_.take count).length] ++ (from_.take count).flatMap Record.summary ++
    [flagByte next.isSome] ++ optHalf next

/-- TRACK_READ is answered (R72). -/
def answerTrackRead (first : Option Nat) (count : Nat) (f : Frame) (s : State) : State :=
  match s.listFrom first with
  | some l => replyOk f (s.trackFields l count) s
  | none => replyTo f .notFound [] s

/-- TRACK_READ (R72). -/
def execTrackRead (s : State) : Result :=
  .next (onCommand 0x23 parseTrackRead (fun (first, count) f s => answerTrackRead first count f s) s)

/-- A record's fields in the order of R50, after the stage (R73, R190). The state has meaning in the
tracked stage, the fate in the other. -/
def Record.fields (r : Record) (stage : Byte) : List Byte :=
  stage :: (leBytes 2 r.item ++ wordBytes r.lead ++ leBytes 2 r.length ++ [flagByte r.shortGap] ++
    wordBytes r.decisionPoint ++ wordBytes r.runoutPoint ++ [flagByte r.decisionDue] ++
    keyBytes r.key ++
    [optFinByte r.directLane, if stage = 0 then r.state.code else 0xFF] ++
    leBytes 2 (r.decisionNumber.getD 0).toNat ++
    [optFinByte r.lane, optCode Reason.code r.reason, optFinByte r.route] ++
    optWordBytes r.firePos ++ [r.fateByte] ++ offsetBytes r.confirmOffset)

/-- ITEM_READ is answered (R73). -/
def answerItemRead (item : Nat) (f : Frame) (s : State) : State :=
  match s.tracked item, s.pendingRecord item with
  | some r, _ => replyOk f (r.fields 0) s
  | none, some r => replyOk f (r.fields 1) s
  | none, none => replyTo f .notFound [] s

/-- ITEM_READ (R73). -/
def execItemRead (s : State) : Result := .next (onCommand 0x24 parseItem answerItemRead s)

/-! ## FENCE (R136 to R138) -/

/-- The records a scope reaches, the last of which is the boundary: the tracking list, or its decided
prefix (R136, R137). -/
def State.scopeRecords (s : State) : FenceScope → List Record
  | .all => s.tracking.list
  | .decided => decidedPrefix s.tracking.list

/-- The covered set of a boundary: the tracked records at or before it, up to 63 steps (R137). Where live
numbers span more than 63 steps this is less than the whole list or prefix (log 34). -/
def State.covered (s : State) (boundary : Nat) : List Record :=
  s.tracking.list.filter fun r => atOrBefore r.item boundary

/-- The fields of a FENCE answered OK at once: boundary absent, counts 0 (R136). -/
def emptyFenceFields (scope : FenceScope) : List Byte :=
  scope.code :: (leBytes 2 0xFFFF ++ [0, 0])

/-- FENCE is answered: empty scope, list full, taken (R136). -/
def answerFence (scope : FenceScope) (f : Frame) (s : State) : State :=
  match (s.scopeRecords scope).getLast? with
  | none => replyOk f (emptyFenceFields scope) s
  | some r =>
    if s.tracking.fences.length < Config.fenceListSize then
      let count := (s.covered r.item).length
      s.setTracking { s.tracking with
        fences := s.tracking.fences ++
          [{ tag := f.tag, scope, boundary := r.item, covered := count, remaining := count }] }
    else replyTo f .full [scope.code, byteOf s.tracking.fences.length] s

/-- FENCE (R136). -/
def execFence (s : State) : Result := .next (onCommand 0x25 parseFence answerFence s)

end Sys2Proof.Machine
end

