-- ==== Sys2Proof/Machine/Triggers.lean ====
section
/-! DEFINITION. The rows of the triggers and timers of induction, the infeed, tracking and the lanes
(R7, R30, R36, R39, R53, R65, R122 to R132). Each takes its trigger where it is reached, or its timer
where it has run out, and changes nothing otherwise (log 1). -/

namespace Sys2Proof.Machine

/-! ## Induction and infeed -/

/-- The jam trigger is reached. -/
def State.jamDue (s : State) : Bool := s.induction.jamTrigger.any (·.reached)

/-- JAM_TRIGGER (R36). -/
def execJamTrigger (s : State) : Result := .next (whenDue s.jamDue takeJam s)

/-- TRAIL_EXPIRY (R39): the previous trail position becomes absent. -/
def execTrailExpiry (s : State) : Result :=
  .next (whenDue (s.induction.trailExpiry = .reached) dropPrevTrail s)

/-- The gap-release point is reached. -/
def State.gapDue (s : State) : Bool := s.infeed.gapRelease.any (·.reached)

/-- GAP_RELEASE_TRIGGER (R30): the point becomes absent and the infeed chooses afresh. -/
def execGapReleaseTrigger (s : State) : Result :=
  .next (whenDue s.gapDue (fun s => chooseInfeed (s.setInfeed { s.infeed with gapRelease := none })) s)

/-! ## Tracking -/

/-- The decision trigger of `item` is reached. -/
def State.decisionReached (s : State) (item : Nat) : Bool :=
  (s.tracked item).any fun r => r.state = .waiting ∧ r.decisionArm = .reached

/-- DECISION_TRIGGER (R53, R54). -/
def execDecisionTrigger (item : Nat) (s : State) : Result :=
  .next (whenDue (s.decisionReached item) (takeDecision item) s)

/-- The run-out trigger of `item` is reached. -/
def State.runoutReached (s : State) (item : Nat) : Bool :=
  (s.tracked item).any fun r => r.state = .runout ∧ r.runoutArm = .reached

/-- RUNOUT_TRIGGER (R65): fate PASSED_END. -/
def execRunoutTrigger (item : Nat) (s : State) : Result :=
  .next (whenDue (s.runoutReached item) (giveFate item .passedEnd none) s)

/-! ## Lanes -/

/-- FIRE_TRIGGER (R123, R124). -/
def execFireTrigger (l : LaneId) (s : State) : Result := .next (whenRunning s (takeFire l))

/-- DWELL_END (R125). -/
def execDwellEnd (l : LaneId) (s : State) : Result := .next (whenRunning s (takeDwellEnd l))

/-- The phase timer has run out in phase `p` (R125). -/
def LaneUnit.phaseOver (u : LaneUnit) (p : DiverterPhase) : Bool :=
  decide (u.phase = p) && decide (u.phaseLength ≤ u.phaseTimer)

/-- RETRACT_END (R125): the diverter enters SETTLE. -/
def execRetractEnd (l : LaneId) (s : State) : Result :=
  .next (whenDue ((s.lane l).phaseOver .retract) (modifyLane l (·.enterSettle)) s)

/-- SETTLE_END (R125): the diverter enters IDLE. -/
def execSettleEnd (l : LaneId) (s : State) : Result :=
  .next (whenDue ((s.lane l).phaseOver .settle)
    (modifyLane l fun u => { u with phase := .idle, phaseTimer := 0, phaseLength := 0 }) s)

/-- WINDOW_CLOSE_TRIGGER (R129). -/
def execWindowCloseTrigger (l : LaneId) (s : State) : Result :=
  .next (whenRunning s (takeWindowClose l))

/-- FULL_DELAY_EXPIRY (R131). -/
def execFullDelayExpiry (l : LaneId) (s : State) : Result :=
  .next (whenDue (s.lane l).fullDue (becomeFull l) s)

/-- The jam flag is set and LANE_JAM occurs (R132). -/
def becomeJammed (l : LaneId) (s : State) : State :=
  faultOccur .laneJam (some l)
    (modifyLane l (fun u => { u with jam := true, jamTimer := none, jamDue := false }) s)

/-- LANE_JAM_EXPIRY (R132). -/
def execLaneJamExpiry (l : LaneId) (s : State) : Result :=
  .next (whenDue (s.lane l).jamDue (becomeJammed l) s)

/-- LAST_FIRE_EXPIRY (R122): the last fire position becomes absent. -/
def execLastFireExpiry (l : LaneId) (s : State) : Result :=
  .next (whenDue ((s.lane l).lastFireExpiry = .reached)
    (modifyLane l fun u => { u with lastFire := none, lastFireExpiry := .off }) s)

end Sys2Proof.Machine
end

