-- ==== Sys2Proof/Machine/Dispatch.lean ====
section
/-! DEFINITION. One arm for each row of spec/opcode_table.json: the row's meaning. -/

namespace Sys2Proof.Machine

/-- The effect of one command on everything but the queue. -/
def exec (i : Instr) (s : State) : Host.Outcome State Fault Refusal :=
  match i with
  | .powerOn => Sys2Proof.Machine.execPowerOn s
  | .resetAssert => Sys2Proof.Machine.execResetAssert s
  | .resetEnd fast => Sys2Proof.Machine.execResetEnd fast s
  | .encoderStep a b => Sys2Proof.Machine.execEncoderStep a b s
  | .phaseError => Sys2Proof.Machine.execPhaseError s
  | .measuredSpeedUpdate => Sys2Proof.Machine.execMeasuredSpeedUpdate s
  | .sensorChange input level => Sys2Proof.Machine.execSensorChange input level s
  | .sensorEdgeAccepted input => Sys2Proof.Machine.execSensorEdgeAccepted input s
  | .jamTrigger => Sys2Proof.Machine.execJamTrigger s
  | .trailExpiry => Sys2Proof.Machine.execTrailExpiry s
  | .gapReleaseTrigger => Sys2Proof.Machine.execGapReleaseTrigger s
  | .beltTick => Sys2Proof.Machine.execBeltTick s
  | .standstill => Sys2Proof.Machine.execStandstill s
  | .encoderStall => Sys2Proof.Machine.execEncoderStall s
  | .decisionTrigger item => Sys2Proof.Machine.execDecisionTrigger item s
  | .runoutTrigger item => Sys2Proof.Machine.execRunoutTrigger item s
  | .fireTrigger l => Sys2Proof.Machine.execFireTrigger l s
  | .dwellEnd l => Sys2Proof.Machine.execDwellEnd l s
  | .retractEnd l => Sys2Proof.Machine.execRetractEnd l s
  | .settleEnd l => Sys2Proof.Machine.execSettleEnd l s
  | .windowCloseTrigger l => Sys2Proof.Machine.execWindowCloseTrigger l s
  | .fullDelayExpiry l => Sys2Proof.Machine.execFullDelayExpiry l s
  | .laneJamExpiry l => Sys2Proof.Machine.execLaneJamExpiry l s
  | .lastFireExpiry l => Sys2Proof.Machine.execLastFireExpiry l s
  | .spacingTimerExpiry => Sys2Proof.Machine.execSpacingTimerExpiry s
  | .receiveByte byte stop => Sys2Proof.Machine.execReceiveByte byte stop s
  | .byteGapTimeout => Sys2Proof.Machine.execByteGapTimeout s
  | .arbiterTake => Sys2Proof.Machine.execArbiterTake s
  | .frameSent => Sys2Proof.Machine.execFrameSent s
  | .badKind => Sys2Proof.Machine.execBadKind s
  | .identify => Sys2Proof.Machine.execIdentify s
  | .status => Sys2Proof.Machine.execStatus s
  | .softResetTrack => Sys2Proof.Machine.execSoftResetTrack s
  | .softResetEvents => Sys2Proof.Machine.execSoftResetEvents s
  | .softResetConfig => Sys2Proof.Machine.execSoftResetConfig s
  | .lineConfig => Sys2Proof.Machine.execLineConfig s
  | .lineRead => Sys2Proof.Machine.execLineRead s
  | .beltConfig => Sys2Proof.Machine.execBeltConfig s
  | .beltStart => Sys2Proof.Machine.execBeltStart s
  | .beltSpeed => Sys2Proof.Machine.execBeltSpeed s
  | .beltStop => Sys2Proof.Machine.execBeltStop s
  | .infeedSet => Sys2Proof.Machine.execInfeedSet s
  | .assign => Sys2Proof.Machine.execAssign s
  | .assignLane => Sys2Proof.Machine.execAssignLane s
  | .cancel => Sys2Proof.Machine.execCancel s
  | .trackRead => Sys2Proof.Machine.execTrackRead s
  | .itemRead => Sys2Proof.Machine.execItemRead s
  | .fence => Sys2Proof.Machine.execFence s
  | .routeWrite => Sys2Proof.Machine.execRouteWrite s
  | .routeWriteNext => Sys2Proof.Machine.execRouteWriteNext s
  | .routeRead => Sys2Proof.Machine.execRouteRead s
  | .routeProbe => Sys2Proof.Machine.execRouteProbe s
  | .routeClear => Sys2Proof.Machine.execRouteClear s
  | .planSelect => Sys2Proof.Machine.execPlanSelect s
  | .groupSet => Sys2Proof.Machine.execGroupSet s
  | .groupRead => Sys2Proof.Machine.execGroupRead s
  | .laneConfig => Sys2Proof.Machine.execLaneConfig s
  | .laneStateEnable => Sys2Proof.Machine.execLaneStateEnable s
  | .laneStateDrain => Sys2Proof.Machine.execLaneStateDrain s
  | .laneStateDisable => Sys2Proof.Machine.execLaneStateDisable s
  | .laneRead => Sys2Proof.Machine.execLaneRead s
  | .faultRead => Sys2Proof.Machine.execFaultRead s
  | .faultClear => Sys2Proof.Machine.execFaultClear s
  | .faultMask => Sys2Proof.Machine.execFaultMask s
  | .faultAction => Sys2Proof.Machine.execFaultAction s
  | .faultInject => Sys2Proof.Machine.execFaultInject s
  | .eventEnable => Sys2Proof.Machine.execEventEnable s
  | .eventRead => Sys2Proof.Machine.execEventRead s
  | .reportSet => Sys2Proof.Machine.execReportSet s

end Sys2Proof.Machine
end

