-- ==== Sys2Proof/Machine/Step.lean ====
section
/-! DEFINITION. One step of the part: the command at the front of the queue, or idling. -/

namespace Sys2Proof.Machine

/-- One step: the command at the front of the queue is applied to the state with the queue's rest; on
an empty queue the part idles (log 2). -/
def step (s : State) : Host.Outcome State Fault Refusal :=
  match s.pending with
  | c :: rest => exec c (s.setPending rest)
  | [] => .next s

/-- The command a word spells, put at the front of the queue. -/
def State.withFetchWord (s : State) (nbits w : Nat) : State :=
  match decodeTableWord nbits w with
  | some c => s.setPending (c :: s.pending)
  | none => s

end Sys2Proof.Machine
end

