-- ==== Sys2Proof/Safety.lean ====
section
/-! DEFINITION. What the part keeps true between commands, and the words the statements use for a command
frame at the head of its queue and its answer. -/

namespace Sys2Proof.Machine

/-! ## Invariants -/

/-- No two valid route entries overlap (R79). -/
def State.RoutesApart (s : State) : Prop :=
  ∀ i j : Fin 32, i ≠ j → s.routes.entries[i].valid = true → s.routes.entries[j].valid = true →
    s.routes.entries[i].overlaps s.routes.entries[j] = false

/-- ESTOP is of class STOP and is not masked (R143, R156, R157). -/
def State.EstopFixed (s : State) : Prop :=
  (s.source .estop).masked = false ∧ (s.source .estop).cls = .stop

/-- While the emergency-stop input is asserted, ESTOP is latched (R144). -/
def State.EstopHeld (s : State) : Prop :=
  s.accepted .emergencyStop = true → (s.source .estop).latched = true

/-- The belt is at rest or on its way there. -/
abbrev BeltState.stopping (b : BeltState) : Prop := b = .decel ∨ b = .brake ∨ b = .stopped

/-- While an unmasked source of class HALT or STOP is latched, the belt is in DECEL, BRAKE or STOPPED
(R24). -/
def State.BeltHeld (s : State) : Prop := s.stoppingFault = true → s.belt.state.stopping

/-- The first fault is present exactly when an unmasked source is latched, and names one (R148). -/
def State.FirstFaultNamed (s : State) : Prop :=
  (s.faults.first.isSome = s.unmaskedLatched) ∧
    ∀ f, s.faults.first = some f → (s.source f).acting = true

/-- A pending entry stands only for an enabled pair, with a count of 1 to 255 (R161). -/
def State.EntriesEnabled (s : State) : Prop :=
  ∀ (i : Fin 84) (e : EventEntry), s.events.entries[i] = some e →
    s.events.enabled[i] = true ∧ 1 ≤ e.count ∧ e.count ≤ 255

/-- The link's queues keep within their places (R136, R176, R179). -/
def State.QueuesBounded (s : State) : Prop :=
  s.link.commands.length ≤ 4 ∧ s.tracking.fences.length ≤ 4 ∧ s.placesHeld ≤ 12

/-- At most 64 records are in use (R43). -/
def State.PoolBounded (s : State) : Prop :=
  s.tracking.list.length + s.tracking.fatePending.length ≤ 64

/-- The infeed is in the first state whose condition holds (R27). -/
def State.InfeedChosen (s : State) : Prop := s.infeed.state = s.infeedChoice

/-- A lane unit's queue and diverter fit its state (R112, R117, R118, R121): at most four entries; in
CLOSING only DIVERTING ones; in DISABLED and FENCED none; in these three the diverter is not in
EXTEND. -/
def LaneUnit.Settled (u : LaneUnit) : Prop :=
  u.queue.length ≤ 4 ∧
    match u.state with
    | .enabled | .draining => True
    | .closing _ => (∀ e ∈ u.queue, e.diverting = true) ∧ u.phase ≠ .extend
    | .disabled | .fenced => u.queue = [] ∧ u.phase ≠ .extend

/-- Every lane unit is settled. -/
def State.LanesSettled (s : State) : Prop := ∀ l : LaneId, (s.lane l).Settled

/-- The fault report queue holds at most one report for each source (R159, R180). -/
def State.ReportsApart (s : State) : Prop := (s.link.faultReports.map (·.source)).Nodup

/-! ## A command and its answer -/

/-- A command frame that the interpreter may take now stands at the head of its queue (R177). -/
def State.Ready (s : State) (f : Frame) : Prop :=
  s.resetHold = none ∧ s.link.replies.length + s.tracking.fences.length < 8 ∧
    s.link.commands.head? = some f

/-- The state once the head frame has left the command queue (R177). -/
def State.taken (s : State) : State :=
  { s with link := { s.link with commands := s.link.commands.tail } }

/-- The state once a reply to `f` has joined the reply queue (R178): the command's kind plus 0x80, its
tag, a status and the fields after it. -/
def State.answered (s : State) (f : Frame) (status : Status) (fields : List Byte) : State :=
  { s with link := { s.link with
      replies := s.link.replies ++
        [{ kind := f.kind + 0x80, tag := f.tag, status := status, fields := fields }] } }

/-- The host commands with the KIND of their frames and the payload lengths their layouts allow (R188,
R189). SOFT_RESET and LANE_STATE have a row for each scope or request. -/
def commandLayouts : List (Instr × Byte × List Nat) :=
  [(.identify, 0x01, [0]), (.status, 0x02, [0]), (.softResetTrack, 0x03, [1]),
   (.softResetEvents, 0x03, [1]), (.softResetConfig, 0x03, [1]), (.lineConfig, 0x08, [26]),
   (.lineRead, 0x09, [0]), (.beltConfig, 0x10, [12, 0]), (.beltStart, 0x11, [4]),
   (.beltSpeed, 0x12, [4]), (.beltStop, 0x13, [1]), (.infeedSet, 0x18, [1]), (.assign, 0x20, [6]),
   (.assignLane, 0x21, [3]), (.cancel, 0x22, [2]), (.trackRead, 0x23, [3]), (.itemRead, 0x24, [2])] ++
  [(.fence, 0x25, [1]), (.routeWrite, 0x28, [14]), (.routeWriteNext, 0x29, [13]),
   (.routeRead, 0x2A, [1]), (.routeProbe, 0x2B, [5]), (.routeClear, 0x2C, [1]),
   (.planSelect, 0x2D, [1]), (.groupSet, 0x30, [5]), (.groupRead, 0x31, [1]),
   (.laneConfig, 0x38, [19]), (.laneStateEnable, 0x39, [2]), (.laneStateDrain, 0x39, [2]),
   (.laneStateDisable, 0x39, [2]), (.laneRead, 0x3A, [1]), (.faultRead, 0x40, [0]),
   (.faultClear, 0x41, [2]), (.faultMask, 0x42, [4]), (.faultAction, 0x43, [2])] ++
  [(.faultInject, 0x44, [3]), (.eventEnable, 0x48, [5]), (.eventRead, 0x49, [1]),
   (.reportSet, 0x4A, [3, 0])]

/-- A byte that is neither below `n` nor the absent value (R190). -/
def byteRefused (n v : Nat) : Bool := decide (n ≤ v) && decide (v ≠ 0xFF)

/-- The thirteen bytes of a route entry at `off` hold a field out of range (R80, R189). -/
def routeRefused (p : List Byte) (off : Nat) : Bool :=
  let kind := fieldAt p (off + 10) 1
  let target := fieldAt p (off + 11) 1
  decide (0x1000000 ≤ fieldAt p off 4) || decide (0x1000000 ≤ fieldAt p (off + 4) 4) ||
    decide (16 ≤ fieldAt p (off + 8) 1) || decide (1 < fieldAt p (off + 9) 1) ||
    decide (1 < kind) || decide (kind = 0 ∧ 16 ≤ target) || decide (kind = 1 ∧ 8 ≤ target) ||
    decide (1 < fieldAt p (off + 12) 1)

/-- A LINE_CONFIG payload of the right length holds a field out of range, a decision distance not below the
run-out distance, or a minimum length above the maximum (R46, R189). -/
def lineRefused (p : List Byte) : Bool :=
  let runout := fieldAt p 0 4
  let decision := fieldAt p 4 4
  let minLength := fieldAt p 8 2
  let maxLength := fieldAt p 10 2
  decide (runout = 0) || decide (1000000 < runout) || decide (decision = 0) ||
    decide (runout ≤ decision) || decide (minLength = 0) || decide (maxLength < minLength) ||
    decide (16 < fieldAt p 16 1) || byteRefused 8 (fieldAt p 17 1) ||
    byteRefused 8 (fieldAt p 18 1) || byteRefused 8 (fieldAt p 19 1) ||
    byteRefused 16 (fieldAt p 20 1) || decide (3 < fieldAt p 21 1) || decide (1 < fieldAt p 22 1) ||
    decide (15 < fieldAt p 23 1)

/-- A LANE_CONFIG payload of the right length holds a field out of range, or a confirm open not below the
confirm close (R114, R189). -/
def laneRefused (p : List Byte) : Bool :=
  let fire := fieldAt p 1 4
  let jam := fieldAt p 17 2
  decide (16 ≤ fieldAt p 0 1) || decide (fire = 0) || decide (1000000 < fire) ||
    decide (fieldAt p 5 2 = 0) || decide (fieldAt p 9 2 = 0) ||
    decide (fieldAt p 13 2 ≤ fieldAt p 11 2) || decide (2000 < fieldAt p 15 2) ||
    decide (jam ≠ 0 ∧ jam < 100) || decide (10000 < jam)

/-- A BELT_CONFIG payload of the right length holds a field out of range (R18, R189). -/
def beltRefused (p : List Byte) : Bool :=
  let stall := fieldAt p 10 2
  decide (fieldAt p 0 4 < 1000) || decide (2000000 < fieldAt p 0 4) ||
    decide (fieldAt p 4 4 < 1000) || decide (2000000 < fieldAt p 4 4) ||
    decide (stall ≠ 0 ∧ stall < 10) || decide (2000 < stall)

/-- The payload of a command frame of kind `k`, of a length its layout allows, holds a value that the
command's rule refuses with BAD_ARG (R18, R19, R22, R23, R33, R46, R56 to R59, R72, R73, R80, R86, R87, R89,
R91, R97, R98, R114, R115, R134, R136, R155 to R158, R162, R166, R167, R185). The empty payloads of
BELT_CONFIG and REPORT_SET are reads. -/
def fieldsRefused (k : Byte) (p : List Byte) : Bool :=
  match k.toNat with
  | 0x03 => decide (2 < fieldAt p 0 1)
  | 0x08 => lineRefused p
  | 0x10 => decide (p ≠ []) && beltRefused p
  | 0x11 | 0x12 => decide (fieldAt p 0 4 = 0) || decide (200000 < fieldAt p 0 4)
  | 0x13 | 0x18 | 0x25 => decide (1 < fieldAt p 0 1)
  | 0x20 => decide (fieldAt p 0 2 = 0) ||
      decide (0x1000000 ≤ fieldAt p 2 4 ∧ fieldAt p 2 4 ≠ 0xFFFFFFFF)
  | 0x21 => decide (fieldAt p 0 2 = 0) || decide (16 ≤ fieldAt p 2 1)
  | 0x22 | 0x24 => decide (fieldAt p 0 2 = 0)
  | 0x23 => decide (fieldAt p 0 2 = 0) || decide (fieldAt p 2 1 = 0) || decide (16 < fieldAt p 2 1)
  | 0x28 => decide (32 ≤ fieldAt p 0 1) || routeRefused p 1
  | 0x29 => routeRefused p 0
  | 0x2A => byteRefused 32 (fieldAt p 0 1)
  | 0x2B => decide (0x1000000 ≤ fieldAt p 0 4) || byteRefused 16 (fieldAt p 4 1)
  | 0x2C => decide (0x21 < fieldAt p 0 1)
  | 0x2D | 0x3A => decide (16 ≤ fieldAt p 0 1)
  | 0x30 => decide (16 ≤ fieldAt p 0 1) || byteRefused 7 (fieldAt p 1 1) ||
      byteRefused 7 (fieldAt p 2 1) || byteRefused 7 (fieldAt p 3 1) || byteRefused 7 (fieldAt p 4 1)
  | 0x31 => decide (8 ≤ fieldAt p 0 1)
  | 0x38 => laneRefused p
  | 0x39 => decide (16 ≤ fieldAt p 0 1) || decide (2 < fieldAt p 1 1)
  | 0x41 => decide (0x8000 ≤ fieldAt p 0 2)
  | 0x42 =>
      let set := fieldAt p 0 2
      let clear := fieldAt p 2 2
      decide (0x8000 ≤ set) || decide (0x8000 ≤ clear) || set.testBit 6 || clear.testBit 6 ||
        (List.range 15).any fun n => set.testBit n && clear.testBit n
  | 0x43 => decide (14 < fieldAt p 0 1) || decide (fieldAt p 0 1 = 6) || decide (3 < fieldAt p 1 1)
  | 0x44 => decide (0x8000 ≤ fieldAt p 0 2) || byteRefused 16 (fieldAt p 2 1)
  | 0x48 => decide (1 < fieldAt p 0 1) || decide (1 < fieldAt p 4 1) ||
      decide ((if fieldAt p 0 1 = 1 then 16 else 32) ≤ fieldAt p 3 1)
  | 0x49 => decide (fieldAt p 0 1 = 0) || decide (20 < fieldAt p 0 1)
  | 0x4A => decide (p ≠ []) && (decide (1 < fieldAt p 1 1) || decide (1 < fieldAt p 2 1))
  | _ => false

/-! ## Where an item and an entry stand -/

/-- The tracking list holds `r` between `before` and `after`, and no other record of its number. -/
def State.ListHolds (s : State) (before : List Record) (r : Record) (after : List Record) : Prop :=
  s.tracking.list = before ++ r :: after ∧ ∀ x ∈ before ++ after, x.item ≠ r.item

/-- The state with another tracking list. -/
def State.withList (s : State) (list : List Record) : State :=
  { s with tracking := { s.tracking with list := list } }

/-- The state with one lane replaced. -/
def State.withLane (s : State) (l : LaneId) (u : LaneUnit) : State :=
  { s with lanes := s.lanes.set l u }

/-- The state with one sensor input replaced. -/
def State.withSensor (s : State) (i : SensorInput) (x : SensorState) : State :=
  { s with position := { s.position with sensors := s.position.sensors.set i.idx x } }

/-- The state with one fault source replaced. -/
def State.withSource (s : State) (f : FaultSource) (x : SourceState) : State :=
  { s with faults := { s.faults with sources := s.faults.sources.set f.idx x } }

/-- A 16-bit set holds exactly the sources of which `p` holds: bit n stands for source n (R187). -/
def IsSourceSet (set : BitVec 16) (p : FaultSource → Bool) : Prop :=
  ∀ n : Fin 16, set.getLsbD n.val =
    FaultSource.all.any fun f => decide (f.idx.val = n.val) && p f

/-- The latched set and the first fault as replies of the fault commands carry them (R155, R158). -/
def State.FaultSummary (s : State) (bytes : List Byte) : Prop :=
  ∃ latched : BitVec 16, IsSourceSet latched (fun f => (s.source f).latched) ∧
    bytes = leBytes 2 latched.toNat ++ [optFinByte (s.faults.first.map FaultSource.idx)]

/-- The tracking table after a purge (R69, R141): every tracked record fate-pending with PURGED, in list
order, and no fence. -/
def State.purgedTracking (s : State) : Tracking :=
  { s.tracking with
    list := []
    fatePending := s.tracking.fatePending ++ s.tracking.list.map fun r => { r with
      fate := some .purged, decisionDue := false, decisionArm := .off, runoutArm := .off }
    fences := [] }

/-- The link after a purge (R69, R71, R141): a FATE report of each tracked record and an ABORTED reply of
each fence, both in list order. -/
def State.purgedLink (s : State) : Link :=
  { s.link with
    itemReports := s.link.itemReports ++ s.tracking.list.map fun r => .fate
      { item := r.item, fate := .purged, lane := r.lane, reason := r.reason, route := r.route
        key := r.key, decisionNumber := r.decisionNumber.getD 0, confirmOffset := r.confirmOffset }
    replies := s.link.replies ++ s.tracking.fences.map fun e =>
      { kind := 0xA5, tag := e.tag, status := .aborted
        fields := e.scope.code :: (leBytes 2 e.boundary ++ [byteOf e.covered, byteOf e.remaining]) } }

/-- Pool use as replies carry it (R184): tracked, fate-pending and free counts. -/
def poolBytes (t : Tracking) : List Byte :=
  [byteOf t.list.length, byteOf t.fatePending.length,
   byteOf (64 - (t.list.length + t.fatePending.length))]

/-- How far pair `i` stands behind the scan cursor in scan order (R164): the pair after the cursor is at
0, the cursor's own at 83. -/
def EventUnit.scanDistance (e : EventUnit) (i : Fin 84) : Nat := (i - (e.cursor + 1)).val

/-- The belt count has not reached position `p` (R7). -/
def State.Ahead (s : State) (p : Word) : Prop := Word.diff s.position.count p < 0

/-- A line configuration every field of which is in its range (R46). -/
def LineConfig.InRange (c : LineConfig) : Prop :=
  1 ≤ c.decision ∧ c.decision < c.runout ∧ c.runout ≤ 1000000 ∧ 1 ≤ c.minLength ∧
    c.minLength ≤ c.maxLength ∧ c.maxLength ≤ 65535 ∧ c.minGap ≤ 65535 ∧ c.releaseGap ≤ 65535 ∧
    c.reserve ≤ 16 ∧ c.filterTime ≤ 15 ∧ c.reverseLimit ≤ 65535

/-- A lane geometry every field of which is in its range (R114). -/
def Geometry.InRange (g : Geometry) : Prop :=
  1 ≤ g.fireDistance ∧ g.fireDistance ≤ 1000000 ∧ 1 ≤ g.dwell ∧ g.dwell ≤ 65535 ∧
    g.retractTime ≤ 255 ∧ g.settleTime ≤ 255 ∧ 1 ≤ g.pitch ∧ g.pitch ≤ 65535 ∧
    g.confirmOpen < g.confirmClose ∧ g.confirmClose ≤ 65535 ∧ g.fullDelay ≤ 2000 ∧
    (g.jamTime = 0 ∨ (100 ≤ g.jamTime ∧ g.jamTime ≤ 10000))

/-- The thirteen bytes of a route entry in a ROUTE_WRITE_NEXT payload, given the key as the host writes
it (R189). -/
def routePayload (key mask : Key) (plan : Fin 16) (allPlans : Bool) (target : Target)
    (locked : Bool) : List Byte :=
  leBytes 4 key.toNat ++ leBytes 4 mask.toNat ++ [byteOf plan.val, flagByte allPlans] ++
    target.bytes ++ [flagByte locked]

/-! ## What an occurrence and a decision leave -/

/-- The tracking table after an occurrence of a source that is not lane-scoped (R145, R152): purged
where the occurrence latches it unmasked with class STOP, as it was otherwise. -/
def State.trackingAfter (s : State) (f : FaultSource) : Tracking :=
  if (s.source f).latched = false ∧ (s.source f).masked = false ∧ (s.source f).cls = .stop then
    s.purgedTracking
  else s.tracking

/-- The gap check finds no fault in a lead position (R39): beyond the previous trail by 1 or more and by
the minimum gap, or with no previous trail, beyond the youngest tracked item's lead. -/
def State.GapClear (s : State) (lead : Word) : Prop :=
  (∀ p, s.induction.prevTrail = some p →
    0 < Word.diff lead p ∧ (s.line.minGap : Int) ≤ Word.diff lead p) ∧
  (s.induction.prevTrail = none → ∀ r, s.tracking.list.getLast? = some r →
    0 < Word.diff lead r.lead)

/-- The gap check discards a lead position (R39): at or behind the previous trail, or with no previous
trail, at or behind the youngest tracked item's lead. -/
def State.GapDiscards (s : State) (lead : Word) : Prop :=
  (∃ p, s.induction.prevTrail = some p ∧ Word.diff lead p ≤ 0) ∨
  (s.induction.prevTrail = none ∧ ∃ r, s.tracking.list.getLast? = some r ∧ Word.diff lead r.lead ≤ 0)

/-- The route table once a decision has counted a hit of the entry that matched, if one did (R78,
R92). -/
def RouteTable.withHit (t : RouteTable) (route : Option (Fin 32)) : RouteTable :=
  match route with
  | some i => { t with
      entries := t.entries.set i
        { t.entries[i] with hits := min 65535 (t.entries[i].hits + 1) } }
  | none => t

/-- The tracking list once lane `l` has withdrawn its RESERVED entries (R63, R117): their items run out
with reason WITHDRAWN. -/
def State.withdrawnList (s : State) (l : LaneId) : List Record :=
  s.tracking.list.map fun r =>
    if ((s.lane l).queue.any fun e => !e.diverting && decide (e.item = r.item)) then { r with
      state := .runout, reason := some .withdrawn, lane := none, firePos := none
      runoutArm := .armed }
    else r

/-- The belt count has reached the run-out point of no item that lane `l` holds RESERVED (R64). -/
def State.WithdrawnAhead (s : State) (l : LaneId) : Prop :=
  ∀ r ∈ s.tracking.list, ∀ e ∈ (s.lane l).queue, e.diverting = false → e.item = r.item →
    s.Ahead r.runoutPoint

/-- A WAITING item with neither key nor direct lane, which a decision with no no-read group sends to the
belt's end, its run-out point not reached (R104, R105). -/
def State.RunsOutUnread (s : State) (r : Record) : Prop :=
  r.state = .waiting ∧ r.key = none ∧ r.directLane = none ∧
    (r.shortGap = false ∨ (s.source .gapShort).cls ≠ .recover ∨ s.line.rejectLane = none) ∧
    s.Ahead r.runoutPoint

/-- The record such a decision leaves (R54, R64, R105). -/
def Record.unread (r : Record) (number : BitVec 16) : Record :=
  { r with
    state := .runout, reason := some .noRead, route := none, lane := none, firePos := none
    decisionNumber := some number, decisionDue := false, decisionArm := .off, runoutArm := .armed }

/-- `t` is `s` once the action of source `f`'s class has been taken, but for the fault unit's own state, the
event unit and the queue of FAULT reports (R149 to R152). `t` holds the class and the lane set. -/
def State.ActionTaken (s t : State) (f : FaultSource) : Prop :=
  let cls := (t.source f).cls
  let acted : State := { t with
    faults := s.faults, infeed := s.infeed, events := s.events
    link := { t.link with faultReports := s.link.faultReports } }
  t.infeed = { s.infeed with
      state := t.infeedChoice
      holdPool := s.infeed.holdPool || decide (cls = .recover ∧ f = .poolExhausted)
      holdJam := s.infeed.holdJam || decide (cls = .recover ∧ f = .entryJam) } ∧
    (cls = .record → acted = s) ∧
    (cls = .recover →
      (f.laneScoped = false → acted = s) ∧
      (f.laneScoped = true →
        (∀ l : LaneId, if (t.source f).laneSet.getLsbD l.val
          then (t.lane l).state = .fenced ∨ (t.lane l).state = .closing .fenced
          else t.lane l = s.lane l) ∧
        { acted with lanes := s.lanes, tracking := s.tracking, link := s.link } = s)) ∧
    (cls = .halt → acted = { s with belt :=
      if s.belt.state.stopping then s.belt
      else { s.belt with state := .decel, target := 0, standstillTimer := 0 } }) ∧
    (cls = .stop →
      t.belt = (if s.belt.state = .brake then s.belt
        else { s.belt with state := .brake, target := 0, reference := 0, standstillTimer := 0 }) ∧
      t.tracking = s.purgedTracking ∧ acted.link = s.purgedLink ∧
      (∀ l : LaneId,
        (t.lane l).queue = (if s.tracking.list = [] then (s.lane l).queue else []) ∧
        (t.lane l).phase ≠ .extend ∧
        (t.lane l).geometry = (s.lane l).geometry ∧ (t.lane l).slots = (s.lane l).slots) ∧
      { acted with belt := s.belt, tracking := s.tracking, lanes := s.lanes, link := s.link } = s)

end Sys2Proof.Machine
end

