-- ==== Sys2Proof/Certificates/Slice0/Obligations.lean ====
section
/-! DEFINITION. The statements about the part that are put to the provers. -/

open Sys2Proof Sys2Proof.Machine

/-! ## The queue of commands -/

/-- A step takes the command at the front of the queue and runs it on the state with the queue's rest;
with no command the part idles (the model's choice, log 2). -/
def Obligations.StepRunsFrontCommand : Prop :=
  (∀ (c : Instr) (rest : List Instr) (s : State),
    step { s with pending := c :: rest } = exec c { s with pending := rest }) ∧
  ∀ s : State, s.pending = [] → step s = .next s

/-- Every command completes in every state, and leaves the queue of commands alone (a command that is not
due changes nothing: the model's choice, log 1). -/
def Obligations.EveryCommandCompletes : Prop :=
  ∀ (c : Instr) (s : State), ∃ t, exec c s = .next t ∧ t.pending = s.pending

/-! ## Reset -/

/-- POWER_ON and RESET_ASSERT hold reset and stop the link: the frame being received is lost without an
occurrence and the one being sent stops (R186, R191); a hold that power-on began keeps its cause (the
model's choice, log 8), and the ATN polarity is ACTIVE_LOW (R170). While reset is held, a command other
than the three reset rows changes nothing but the levels last sampled at the pins (R191). -/
def Obligations.HeldResetStopsTheInputs : Prop :=
  (∀ s : State,
     exec .powerOn s = .next { s with
       resetHold := some .powerOn, events := { s.events with activeHigh := false }
       link := { s.link with receiver := .hunting, sending := none } } ∧
     exec .resetAssert s = .next { s with
       resetHold := some (s.resetHold.getD .pin), events := { s.events with activeHigh := false }
       link := { s.link with receiver := .hunting, sending := none } }) ∧
  ∀ (c : Instr) (s : State), s.resetHold.isSome = true → c ≠ .powerOn → c ≠ .resetAssert →
    (∀ fast, c ≠ .resetEnd fast) →
    ∃ t, exec c s = .next t ∧ { t with position := s.position } = s ∧
      { t.position with encoder := s.position.encoder, sensors := s.position.sensors } = s.position ∧
      ∀ i : Fin 34, t.position.sensors[i].accepted = s.position.sensors[i].accepted ∧
        t.position.sensors[i].candidate = s.position.sensors[i].candidate

/-- RESET_END with the emergency stop released gives every block its starting values (R1, R8, R11, R15,
R33, R43, R46, R49, R55, R75, R99, R135, R138, R142, R171, R186). -/
def Obligations.ResetEndStartsEveryBlock : Prop :=
  ∀ (s : State) (cause : ResetCause) (fast : Bool), s.resetHold = some cause →
    (s.sensor .emergencyStop).raw = false →
    ∃ t, exec (.resetEnd fast) s = .next t ∧ t.resetHold = none ∧
      t.position.count = 0 ∧ t.position.encoder = s.position.encoder ∧
      t.position.measuredSpeed = 0 ∧ t.position.history = [] ∧ t.position.netSteps = 0 ∧
      t.position.reverseRun = 0 ∧
      (∀ i : Fin 34, t.position.sensors[i] =
        { raw := s.position.sensors[i].raw, accepted := s.position.sensors[i].raw,
          candidate := none }) ∧
      t.line =
        { runout := 1000000, decision := 4000, minLength := 100, maxLength := 4000, minGap := 0,
          releaseGap := 0, reserve := 0, noRead := none, noRoute := none, overflow := none,
          rejectLane := none, mode := .quadX4, inverted := false, filterTime := 2,
          reverseLimit := 0 } ∧
      (t.belt.state = .stopped ∧ t.belt.target = 0 ∧ t.belt.reference = 0 ∧
        t.belt.referenceTravel = 0 ∧ t.belt.measuredTravel = 0 ∧ t.belt.deviation = 0 ∧
        t.belt.stallTimer = 0 ∧ t.belt.standstillTimer = 0 ∧ t.belt.accelRate = 50000 ∧
        t.belt.decelRate = 50000 ∧ t.belt.deviationLimit = 0 ∧ t.belt.stallTime = 0) ∧
      t.infeed = { enable := false, state := .off, holdPool := false, holdJam := false,
                   gapRelease := none } ∧
      (t.induction.prevTrail = none ∧ t.induction.trailExpiry = .off ∧ t.induction.nextItem = 1 ∧
        if (s.sensor .entryEye).raw then
          t.induction.measurement = .unmeasured 0 ∧
            t.induction.jamTrigger = some { pos := 4001, reached := false }
        else t.induction.measurement = .clear ∧ t.induction.jamTrigger = none) ∧
      t.tracking = { list := [], fatePending := [], decisionCounter := 0, fences := [] } ∧
      (t.routes.plan = 0 ∧ t.routes.cursor = 0 ∧ ∀ i : Fin 32, t.routes.entries[i] =
        { valid := false, key := 0, mask := 0, plan := 0, allPlans := false, target := .lane 0,
          locked := false, hits := 0 }) ∧
      (∀ g : Fin 8, t.cursors[g] = 15) ∧
      (∀ l : LaneId, (t.lane l).state = .disabled ∧ (t.lane l).configured = false ∧
        (t.lane l).geometry = .cleared ∧ (t.lane l).queue = [] ∧ (t.lane l).lastFire = none ∧
        (t.lane l).phase = .idle ∧ (t.lane l).full = (s.sensor (.fullSensor l)).raw ∧
        (t.lane l).fullTimer = none ∧ (t.lane l).jam = false ∧ (t.lane l).jamTimer = none ∧
        ∀ k : Fin 4, (t.lane l).slots[k] = none) ∧
      (t.faults.first = none ∧ ∀ f : FaultSource, (t.source f).latched = false ∧
        (t.source f).count = 0 ∧ (t.source f).masked = false ∧ (t.source f).cls = f.defaultClass ∧
        (t.source f).laneSet = 0) ∧
      (t.events.cursor = 83 ∧ t.events.spacing = 0 ∧ t.events.spacingTimer = 255 ∧
        t.events.hold = false ∧ t.events.activeHigh = false ∧
        ∀ i : Fin 84, t.events.enabled[i] = false ∧ t.events.entries[i] = none) ∧
      t.link = { fast := fast, receiver := .hunting, commands := [], replies := [],
                 itemReports := [.started cause fast], faultReports := [], sending := none,
                 resetSeen := true }

/-- RESET_END with the emergency stop asserted (R192, first row): ESTOP latches as the first fault, the
STOP action puts the belt in BRAKE, its FAULT report stands behind STARTED, and ATN is asserted. -/
def Obligations.ResetEndWithEmergencyStop : Prop :=
  ∀ (s : State) (cause : ResetCause) (fast : Bool), s.resetHold = some cause →
    (s.sensor .emergencyStop).raw = true →
    ∃ t, exec (.resetEnd fast) s = .next t ∧ t.resetHold = none ∧
      (t.source .estop).latched = true ∧ (t.source .estop).count = 1 ∧
      t.faults.first = some .estop ∧ t.belt.state = .brake ∧ t.brakePin = true ∧
      t.belt.standstillTimer = 0 ∧ t.tracking.list = [] ∧ t.tracking.fences = [] ∧
      t.link.itemReports = [.started cause fast] ∧ t.link.replies = [] ∧
      t.link.faultReports =
        [{ source := .estop, count := 1, cls := .stop, first := true, lane := none }] ∧
      (∀ i : Fin 84, t.events.entries[i] = none) ∧ t.attention = true ∧ t.atnPin = false

/-- SOFT_RESET by scope (R185): TRACK purges and drops the previous trail (R49, R69, R130); EVENTS
removes the pending entries and restarts the spacing timer (R171); CONFIG is refused unless the belt is
STOPPED, and with no level condition standing it purges and returns every block's configuration to its
starting values (R15, R33, R46, R75, R99, R135, R142). The reply carries the scope and the pool use.
With TRACK every lane is emptied and its extension cut short, where no item is tracked as well; that R135
holds there over R69's last sentence is the model's reading (log 33). A level condition standing at CONFIG
latches again, and a blockage arms the jam trigger anew (R47, R142). The parts of CONFIG take one order
(log 19), and the FATE report of a purged item that was in RUNOUT carries its route index, as R63 and the
table of R71 say against another sentence of R71 (log 32). -/
def Obligations.SoftResetByScope : Prop :=
  ∀ (s : State) (f : Frame), s.Ready f → f.kind = 0x03 →
    (f.payload = [0] → ∃ t, exec .softResetTrack s = .next t ∧
      t.tracking = s.purgedTracking ∧
      t.link = ({ s.taken with link := s.taken.purgedLink }.answered f .ok
        (0 :: poolBytes s.purgedTracking)).link ∧
      (∀ l : LaneId, (t.lane l).queue = [] ∧ (t.lane l).phase ≠ .extend ∧
        (t.lane l).geometry = (s.lane l).geometry ∧ (t.lane l).slots = (s.lane l).slots ∧
        (t.lane l).lastFire = (s.lane l).lastFire ∧ (t.lane l).full = (s.lane l).full ∧
        (t.lane l).jam = (s.lane l).jam ∧
        (t.lane l).state = (match (s.lane l).state with
          | .draining | .closing .disabled => .disabled
          | .closing .fenced => .fenced
          | x => x)) ∧
      t.induction = { s.induction with prevTrail := none, trailExpiry := .off } ∧
      t.infeed = { s.infeed with state := t.infeedChoice } ∧
      { t with tracking := s.tracking, link := s.link, lanes := s.lanes, induction := s.induction,
               infeed := s.infeed, events := s.events } = s) ∧
    (f.payload = [1] → exec .softResetEvents s = .next ({ s.taken with events := { s.events with
      entries := Vector.replicate 84 none, spacingTimer := 0 } }.answered f .ok
        (1 :: poolBytes s.tracking))) ∧
    (f.payload = [2] →
      (s.belt.state ≠ .stopped → exec .softResetConfig s = .next (s.taken.answered f .badState [])) ∧
      (s.belt.state = .stopped → s.accepted .emergencyStop = false →
        s.induction.measurement = .clear → ∃ t, exec .softResetConfig s = .next t ∧
        t.tracking = s.purgedTracking ∧
        t.link = ({ s.taken with link := s.taken.purgedLink }.answered f .ok
          (2 :: poolBytes s.purgedTracking)).link ∧
        t.line = LineConfig.reset ∧ t.belt = BeltDrive.reset ∧ t.routes = RouteTable.reset ∧
        (∀ g : Fin 8, t.cursors[g] = 15) ∧
        (∀ l : LaneId, t.lane l = LaneUnit.reset (s.accepted (.fullSensor l))) ∧
        t.faults = FaultUnit.reset ∧ t.events = { EventUnit.reset with spacingTimer := 0 } ∧
        t.infeed = { enable := false, state := .off, holdPool := false, holdJam := false
                     gapRelease := s.infeed.gapRelease } ∧
        t.induction = { s.induction with prevTrail := none, trailExpiry := .off } ∧
        t.position.count = s.position.count ∧ t.position.measuredSpeed = s.position.measuredSpeed ∧
        t.position.reverseRun = s.position.reverseRun ∧
        ∀ i : Fin 34, t.position.sensors[i].accepted = s.position.sensors[i].accepted) ∧
      (s.belt.state = .stopped → ∃ t, exec .softResetConfig s = .next t ∧
        t.tracking = s.purgedTracking ∧ t.line = LineConfig.reset ∧ t.routes = RouteTable.reset ∧
        (s.accepted .emergencyStop = true → (t.source .estop).latched = true ∧
          (t.source .estop).count = 1 ∧ t.faults.first = some .estop ∧ t.belt.state = .brake) ∧
        (s.induction.measurement = .jammed → (t.source .entryJam).latched = true ∧
          (t.source .entryJam).count = 1 ∧ t.induction.measurement = .jammed) ∧
        ∀ lead : Word, (s.induction.measurement = .measuring lead ∨
            s.induction.measurement = .unmeasured lead) →
          let p := lead.plus 4001
          (s.Ahead p → t.induction.measurement = s.induction.measurement ∧
            t.induction.jamTrigger = some { pos := p, reached := false }) ∧
          (¬ s.Ahead p → t.induction.measurement = .jammed ∧ t.induction.jamTrigger = none ∧
            (t.source .entryJam).latched = true)))

/-! ## The position unit -/

/-- The decoding tables: the three quadrature modes, PULSE_UP_DOWN, and count direction INVERTED
(R2 to R5). How the rows share the samples is the model's choice (log 6): ENCODER_STEP takes the sampled
pair, so one that decodes to no step only becomes the decoder reference, and one that decodes to a phase
error is taken as PHASE_ERROR is. -/
def Obligations.DecodingTables : Prop :=
  (∀ (m : EncoderMode) (b : Bool), m ≠ .pulseUpDown →
    decodeQuad m ⟨false, false⟩ ⟨true, false⟩ = .forward ∧
    decodeQuad m ⟨true, false⟩ ⟨false, false⟩ = .backward ∧
    decodeQuad m ⟨true, true⟩ ⟨false, true⟩ = (if m = .quadX1 then .noStep else .forward) ∧
    decodeQuad m ⟨false, true⟩ ⟨true, true⟩ = (if m = .quadX1 then .noStep else .backward) ∧
    decodeQuad m ⟨b, !b⟩ ⟨b, b⟩ = (if m = .quadX4 then .forward else .noStep) ∧
    decodeQuad m ⟨b, b⟩ ⟨b, !b⟩ = (if m = .quadX4 then .backward else .noStep)) ∧
  (∀ (m : EncoderMode) (a b : Bool), decodeQuad m ⟨a, b⟩ ⟨!a, !b⟩ = .phaseError ∧
    decodeQuad m ⟨a, b⟩ ⟨a, b⟩ = .noStep) ∧
  (∀ b : Bool, decodePulse ⟨false, b⟩ ⟨true, b⟩ = .forward ∧
    decodePulse ⟨b, false⟩ ⟨b, true⟩ = .backward ∧
    decodePulse ⟨false, false⟩ ⟨true, true⟩ = .noStep ∧
    decodePulse ⟨true, b⟩ ⟨false, b⟩ = .noStep ∧ decodePulse ⟨b, true⟩ ⟨b, false⟩ = .noStep) ∧
  (∀ (c : LineConfig) (ref now : LevelPair), c.inverted = false → c.decode ref now =
    if c.mode = .pulseUpDown then decodePulse ref now else decodeQuad c.mode ref now) ∧
  (∀ (c : LineConfig) (ref now : LevelPair),
    ({ c with inverted := true }.decode ref now =
      match { c with inverted := false }.decode ref now with
      | .forward => .backward
      | .backward => .forward
      | .noStep => .noStep
      | .phaseError => .phaseError)) ∧
  ∀ (s : State) (a b : Bool), s.resetHold = none →
    (s.line.decode s.position.encoder ⟨a, b⟩ = .noStep → exec (.encoderStep a b) s =
      .next { s with position := { s.position with encoder := ⟨a, b⟩ } }) ∧
    (s.line.decode s.position.encoder ⟨a, b⟩ = .phaseError →
      exec (.encoderStep a b) s = exec .phaseError s)

/-- A forward step adds one to the belt count, clears the reverse run, and is handed to the belt drive;
every armed trigger whose position is the new count is reached, and nothing else changes (R1, R7, R8,
R12, R17, R25, R26). That a trigger reached waits marked until its own row takes it is the model's choice
(log 7). -/
def Obligations.ForwardStepMovesTheBelt : Prop :=
  ∀ (s : State) (a b : Bool), s.resetHold = none →
    s.line.decode s.position.encoder ⟨a, b⟩ = .forward →
    ∃ t, exec (.encoderStep a b) s = .next t ∧
      t.position = { s.position with
        count := s.position.count + 1, encoder := ⟨a, b⟩, reverseRun := 0,
        netSteps := s.position.netSteps + 1 } ∧
      t.belt = { s.belt with
        measuredTravel := s.belt.measuredTravel + 1, standstillTimer := 0, stallTimer := 0,
        stallRaised := false } ∧
      t.tracking = { s.tracking with list := s.tracking.list.map fun r => { r with
        decisionArm :=
          if r.decisionArm = .armed ∧ s.position.count + 1 = r.decisionPoint then .reached
          else r.decisionArm
        runoutArm :=
          if r.runoutArm = .armed ∧ s.position.count + 1 = r.runoutPoint then .reached
          else r.runoutArm } } ∧
      t.infeed = { s.infeed with gapRelease := s.infeed.gapRelease.map fun g => { g with
        reached := g.reached || decide (s.position.count + 1 = g.pos) } } ∧
      t.induction = { s.induction with
        jamTrigger := s.induction.jamTrigger.map fun g => { g with
          reached := g.reached || decide (s.position.count + 1 = g.pos) }
        trailExpiry :=
          if s.induction.trailExpiry = .armed ∧
            s.induction.prevTrail.any (fun p => s.position.count + 1 = p.plus 65536) then .reached
          else s.induction.trailExpiry } ∧
      (∀ l : LaneId, t.lane l = { s.lane l with
        queue := (s.lane l).queue.map fun e => { e with
          fireArm :=
            if e.fireArm = .armed ∧ s.position.count + 1 = e.firePos then .reached else e.fireArm
          closeArm :=
            if e.closeArm = .armed ∧ s.position.count + 1 = e.closePos then .reached
            else e.closeArm }
        dwellEnd := (s.lane l).dwellEnd.map fun g => { g with
          reached := g.reached || decide (s.position.count + 1 = g.pos) }
        lastFireExpiry :=
          if (s.lane l).lastFireExpiry = .armed ∧
            (s.lane l).lastFire.any (fun p => s.position.count + 1 = p.plus 65536) then .reached
          else (s.lane l).lastFireExpiry }) ∧
      { t with position := s.position, belt := s.belt, tracking := s.tracking, infeed := s.infeed,
               induction := s.induction, lanes := s.lanes } = s

/-- A backward step subtracts one and lengthens the reverse run; the step that brings the run to exactly
the reverse limit hands on BELT_REVERSE (R1, R8, R12). In a quadrature mode a sample with both lines
changed moves no count: the pair becomes the reference and one ENCODER_PHASE occurrence is handed on
(R5). -/
def Obligations.BackwardStepsAndPhaseErrors : Prop :=
  (∀ (s : State) (a b : Bool), s.resetHold = none →
     s.line.decode s.position.encoder ⟨a, b⟩ = .backward →
     ∃ t : State,
       t = { s with
         position := { s.position with
           count := s.position.count - 1, encoder := ⟨a, b⟩
           reverseRun := min 65535 (s.position.reverseRun + 1)
           netSteps := s.position.netSteps - 1 }
         belt := { s.belt with
           measuredTravel := s.belt.measuredTravel - 1, standstillTimer := 0, stallTimer := 0,
           stallRaised := false } } ∧
       exec (.encoderStep a b) s =
         .next (if s.position.reverseRun + 1 = s.line.reverseLimit then faultOccur .beltReverse none t
                else t)) ∧
  ∀ s : State, s.resetHold = none → s.line.mode ≠ .pulseUpDown →
    exec .phaseError s = .next (faultOccur .encoderPhase none { s with
      position := { s.position with
        encoder := ⟨!s.position.encoder.a, !s.position.encoder.b⟩ } })

/-- The sensor filter (R9, R10): a level away from the accepted one forms a candidate with the belt count
as its stamp, or is accepted at once where the filter time is 0; one back at the accepted level drops
it; a level already under test goes on. A candidate held for the filter time is accepted, and the owner
is handed the edge with the candidate's stamp; one that has held for it waits marked until then, by the
model's choice (log 7). The fault unit is handed an ESTOP occurrence by an emergency-stop edge to
asserted, and nothing by one to released (R13). -/
def Obligations.SensorFilterTakesLevels : Prop :=
  (∀ (s : State) (i : SensorInput) (level : Bool), s.resetHold = none →
     (s.sensor i).candidate.all (fun c => !c.due) = true →
     (level = (s.sensor i).accepted →
       exec (.sensorChange i level) s =
         .next (s.withSensor i { s.sensor i with raw := level, candidate := none })) ∧
     (level ≠ (s.sensor i).accepted → (s.sensor i).candidate.isSome = true →
       exec (.sensorChange i level) s =
         .next (s.withSensor i { s.sensor i with raw := level })) ∧
     (level ≠ (s.sensor i).accepted → (s.sensor i).candidate = none → 0 < s.line.filterTime →
       exec (.sensorChange i level) s =
         .next (s.withSensor i { s.sensor i with
           raw := level
           candidate := some { stamp := s.position.count, held := 0, due := false } })) ∧
     (level ≠ (s.sensor i).accepted → (s.sensor i).candidate = none → s.line.filterTime = 0 →
       exec (.sensorChange i level) s =
         .next (handEdge i level s.position.count
           (s.withSensor i { raw := level, accepted := level, candidate := none })))) ∧
  (∀ (s : State) (i : SensorInput) (c : Candidate), s.resetHold = none →
    (s.sensor i).candidate = some c → c.due = true →
    ∃ t, exec (.sensorEdgeAccepted i) s = .next t ∧
      t.position = (s.withSensor i { s.sensor i with
        accepted := !(s.sensor i).accepted, candidate := none }).position ∧
      t.line = s.line ∧
      t = handEdge i (!(s.sensor i).accepted) c.stamp (s.withSensor i { s.sensor i with
        accepted := !(s.sensor i).accepted, candidate := none })) ∧
  ∀ (s : State) (stamp : Word),
    handEdge .emergencyStop true stamp s = faultOccur .estop none s ∧
    handEdge .emergencyStop false stamp s = s

/-! ## Induction -/

/-- An accepted change of the entry eye to blocked, in CLEAR, starts a measurement and arms the jam
trigger at the stamp plus the maximum item length plus 1, or is a jam at once where that is already
reached (R35, R36). A change to clear in JAMMED or UNMEASURED ends the blockage with no measurement, and
like every change to clear sets the gap-release point (R30, R37). JAM_TRIGGER, GAP_RELEASE_TRIGGER and
TRAIL_EXPIRY at a reached position: JAMMED with one ENTRY_JAM occurrence; the gap-release point absent
and the infeed choosing afresh; the previous trail absent (R30, R36, R39). -/
def Obligations.EntryEyePositions : Prop :=
  (∀ (s : State) (stamp : Word), s.induction.measurement = .clear →
     let p := stamp.plus (s.line.maxLength + 1)
     (s.Ahead p → handEdge .entryEye true stamp s = { s with induction := { s.induction with
       measurement := .measuring stamp, jamTrigger := some { pos := p, reached := false } } }) ∧
     (¬ s.Ahead p → handEdge .entryEye true stamp s = faultOccur .entryJam none { s with
       induction := { s.induction with measurement := .jammed, jamTrigger := none } })) ∧
  (∀ (s : State) (stamp : Word), (s.induction.measurement = .jammed ∨
       ∃ entered, s.induction.measurement = .unmeasured entered) →
     let p := stamp.plus s.line.releaseGap
     handEdge .entryEye false stamp s =
       { chooseInfeed { s with infeed := { s.infeed with
           gapRelease := if Word.diff s.position.count p < 0 then some { pos := p, reached := false }
             else none } } with
         induction := { s.induction with measurement := .clear, jamTrigger := none } }) ∧
  (∀ (s : State) (p : Word), s.resetHold = none →
    s.induction.jamTrigger = some { pos := p, reached := true } →
    exec .jamTrigger s = .next (faultOccur .entryJam none { s with
      induction := { s.induction with measurement := .jammed, jamTrigger := none } })) ∧
  (∀ (s : State) (p : Word), s.resetHold = none →
    s.infeed.gapRelease = some { pos := p, reached := true } →
    exec .gapReleaseTrigger s =
      .next (chooseInfeed { s with infeed := { s.infeed with gapRelease := none } })) ∧
  ∀ s : State, s.resetHold = none → s.induction.trailExpiry = .reached →
    exec .trailExpiry s =
      .next { s with induction := { s.induction with prevTrail := none, trailExpiry := .off } }

/-- A measured length out of limits ends the measurement, discards the pair, and hands on SHORT_ITEM or
ENTRY_JAM; the previous trail and the next item number stay (R38). -/
def Obligations.WrongLengthIsDiscarded : Prop :=
  ∀ (s : State) (lead stamp : Word), s.induction.measurement = .measuring lead →
    let t := handEdge .entryEye false stamp s
    t.infeed.gapRelease.isSome = decide (Word.diff s.position.count (stamp.plus s.line.releaseGap) < 0) ∧
    (Word.diff stamp lead < s.line.minLength →
      t.induction = { s.induction with measurement := .clear, jamTrigger := none } ∧
      (t.source .shortItem).latched = true ∧
      (t.source .shortItem).count = min 255 ((s.source .shortItem).count + 1)) ∧
    ((s.line.maxLength : Int) < Word.diff stamp lead → s.line.minLength ≤ s.line.maxLength →
      t.induction = { s.induction with measurement := .clear, jamTrigger := none } ∧
      (t.source .entryJam).latched = true ∧
      (t.source .entryJam).count = min 255 ((s.source .entryJam).count + 1))

/-- A measured item of legal length meets the gap check, then the pool check (R39, R40). A legal gap and a
free record: the record joins the tail of the tracking list, an INDUCTED report joins the item report
queue, the number advances, and the trailing stamp becomes the previous trail; the gap-release point is set
and the infeed then chooses once, by both (R27, R30, R41, R42, R45, R52; that the claim comes before the
point is the model's choice, log 39); nothing else changes. A gap above 0 and below the minimum: GAP_SHORT occurs, and then the item
is inducted with its short-gap flag set. A gap of 0 or less, or with no previous trail a lead that is not
beyond the youngest tracked one: GAP_SHORT occurs, and the item is discarded with no trail kept. No free
record: the trail is kept, no number is used, and POOL_EXHAUSTED occurs. -/
def Obligations.MeasuredItemIsInducted : Prop :=
  ∀ (s : State) (lead stamp : Word), s.induction.measurement = .measuring lead →
    (s.line.minLength : Int) ≤ Word.diff stamp lead →
    Word.diff stamp lead ≤ (s.line.maxLength : Int) →
    let t := handEdge .entryEye false stamp s
    let length := (Word.diff stamp lead).toNat
    let new (short : Bool) : Record :=
      { item := s.induction.nextItem, lead := lead, length := length, shortGap := short,
        decisionPoint := lead.plus s.line.decision, runoutPoint := lead.plus s.line.runout,
        decisionDue := false, key := none, directLane := none, state := .waiting,
        decisionNumber := none, lane := none, reason := none, route := none, firePos := none,
        fate := none, confirmOffset := none, decisionArm := .armed, runoutArm := .off }
    let ended : Induction := { s.induction with measurement := .clear, jamTrigger := none }
    let trailed : Induction := { ended with prevTrail := some stamp, trailExpiry := .armed }
    let numbered : Induction := { trailed with
      nextItem := if s.induction.nextItem < 65535 then s.induction.nextItem + 1 else 1 }
    let used := s.tracking.list.length + s.tracking.fatePending.length
    let counted (f : FaultSource) := (t.source f).latched = true ∧
      (t.source f).count = min 255 ((s.source f).count + 1)
    let release : Option Trigger :=
      if Word.diff s.position.count (stamp.plus s.line.releaseGap) < 0 then
        some { pos := stamp.plus s.line.releaseGap, reached := false }
      else none
    let isShort := ∃ p, s.induction.prevTrail = some p ∧ 0 < Word.diff lead p ∧
      Word.diff lead p < (s.line.minGap : Int)
    (s.GapClear lead → used < 64 → s.Ahead (lead.plus s.line.decision) →
      s.Ahead (stamp.plus 65536) →
      t = chooseInfeed { s with
        tracking := { s.tracking with list := s.tracking.list ++ [new false] }
        link := { s.link with itemReports := s.link.itemReports ++
          [.inducted s.induction.nextItem lead length false] }
        induction := numbered
        infeed := { s.infeed with gapRelease := release } }) ∧
    (isShort → used < 64 → s.Ahead (lead.plus s.line.decision) → s.Ahead (stamp.plus 65536) →
      t.tracking = { s.trackingAfter .gapShort with
        list := (s.trackingAfter .gapShort).list ++ [new true] } ∧
      t.link.itemReports.getLast? = some (.inducted s.induction.nextItem lead length true) ∧
      t.induction = numbered ∧ counted .gapShort) ∧
    (s.GapDiscards lead → t.tracking = s.trackingAfter .gapShort ∧ t.induction = ended ∧
      counted .gapShort) ∧
    ((s.GapClear lead ∨ isShort) → 64 ≤ used → s.Ahead (stamp.plus 65536) →
      t.induction = trailed ∧ counted .poolExhausted ∧ (isShort → counted .gapShort) ∧
      (s.GapClear lead → t.tracking = s.trackingAfter .poolExhausted))

/-- LINE_CONFIG (R46): refused in a belt state other than STOPPED; taken, every field is stored and
answered. With a filter time of 0 every standing candidate is accepted (R11). Above 0, no candidate is
touched: a candidate keeps its held count and its due mark, the model's reading (log 7). With nothing
under measurement only the infeed chooses afresh; with a blockage measured or not, the jam trigger is
armed again for the new maximum item length, and the item is a jam at once where that is reached (R47). -/
def Obligations.LineConfigTakesEffect : Prop :=
  ∀ (s : State) (f : Frame) (c : LineConfig), s.Ready f → f.kind = 0x08 →
    parseLineConfig f.payload = some c →
    (s.belt.state ≠ .stopped → exec .lineConfig s = .next (s.taken.answered f .badState [])) ∧
    (s.belt.state = .stopped →
      (∃ t, exec .lineConfig s = .next t ∧ t.line = c ∧ t.link.replies.getLast? =
        some { kind := 0x88, tag := f.tag, status := .ok, fields := c.bytes } ∧
        (c.filterTime = 0 → ∀ i : Fin 34, t.position.sensors[i] = { s.position.sensors[i] with
          accepted := s.position.sensors[i].accepted ^^ s.position.sensors[i].candidate.isSome
          candidate := none })) ∧
      (0 < c.filterTime →
        (s.induction.measurement = .clear ∨ s.induction.measurement = .jammed →
          exec .lineConfig s = .next ((chooseInfeed { s.taken with line := c }).answered
            f .ok c.bytes)) ∧
        ∀ lead : Word, (s.induction.measurement = .measuring lead ∨
            s.induction.measurement = .unmeasured lead) →
          let p := lead.plus (c.maxLength + 1)
          (s.Ahead p → exec .lineConfig s = .next ((chooseInfeed { s.taken with
            line := c, induction := { s.induction with
              jamTrigger := some { pos := p, reached := false } } }).answered f .ok c.bytes)) ∧
          (¬ s.Ahead p → exec .lineConfig s = .next ((chooseInfeed (faultOccur .entryJam none
            { s.taken with line := c, induction := { s.induction with
              measurement := .jammed, jamTrigger := none } })).answered f .ok c.bytes))))

/-! ## Belt drive and infeed -/

/-- The 1 ms tick. That BELT_TICK is the tick of the whole part is the model's reading (log 3), that a
timer stops at the top of its range too (log 31), and that a candidate, full timer or jam timer that has
run out waits marked for its own row is its choice (log 7); the tenth tick's phase is log 10. The
reference takes one ramp step and its travel is added exactly, and ACCEL or SLOW at the target is RUN,
with AT_SPEED (R16). The stall and standstill timers count, the stall timer from 0 while the reference is
0 (R17, R26). The deviation is computed anew, and BELT_SLIP occurs once as it passes the limit (R25). A
tenth tick closes a span of the speed window (R8), and every other running timer counts (R9, R125, R131,
R132, R163, R174). MEASURED_SPEED_UPDATE after a tenth tick takes ten times the net steps of the window
(R8). -/
def Obligations.TickRampsAndCounts : Prop :=
  (∀ s : State, s.resetHold = none →
    let reference :=
      (match s.belt.state with
      | .accel => min (1000 * s.belt.target) (s.belt.reference + s.belt.accelRate)
      | .slow | .decel => max (1000 * s.belt.target) (s.belt.reference - s.belt.decelRate)
      | .stopped | .run | .brake => s.belt.reference)
    let travel := (s.belt.referenceTravel + reference) % (4294967296 * 1000000)
    let deviation := Word.diff (BitVec.ofNat 32 (travel / 1000000)) s.belt.measuredTravel
    let above := decide (0 < s.belt.deviationLimit ∧ s.belt.deviationLimit < deviation.natAbs)
    let moving := decide (s.belt.state ≠ .stopped ∧ s.belt.state ≠ .brake)
    let atTarget := decide ((s.belt.state = .accel ∨ s.belt.state = .slow) ∧
      reference = 1000 * s.belt.target)
    ∃ u : State,
      u.belt = { s.belt with
        state := if atTarget then .run else s.belt.state
        reference := reference, referenceTravel := travel
        stallTimer := if reference = 0 then 0
          else if moving then min 2000 (s.belt.stallTimer + 1) else s.belt.stallTimer
        stallRaised := decide (reference ≠ 0) && s.belt.stallRaised
        standstillTimer := min 100 (s.belt.standstillTimer + 1)
        deviation := if moving then deviation else s.belt.deviation
        slipAbove := if moving then above else s.belt.slipAbove } ∧
      { u.position with sensors := s.position.sensors } =
        (if s.position.tenth < 9 then { s.position with tenth := s.position.tenth + 1 }
        else { s.position with
          tenth := 0, speedDue := true, netSteps := 0
          history := (s.position.netSteps :: s.position.history).take 10 }) ∧
      (∀ i : Fin 34, u.position.sensors[i] = { s.position.sensors[i] with
        candidate := s.position.sensors[i].candidate.map fun c => { c with
          held := c.held + 1, due := c.due || decide (s.line.filterTime ≤ c.held + 1) } }) ∧
      (∀ l : LaneId, u.lane l = { s.lane l with
        phaseTimer := if (s.lane l).phase = .retract ∨ (s.lane l).phase = .settle then
          min 255 ((s.lane l).phaseTimer + 1) else (s.lane l).phaseTimer
        fullTimer := (s.lane l).fullTimer.map fun n => min 2000 (n + 1)
        fullDue := (s.lane l).fullDue || (s.lane l).fullTimer.any fun n =>
          decide ((s.lane l).geometry.fullDelay ≤ min 2000 (n + 1))
        jamTimer := (s.lane l).jamTimer.map fun n => min 10000 (n + 1)
        jamDue := (s.lane l).jamDue || (s.lane l).jamTimer.any fun n =>
          decide ((s.lane l).geometry.jamTime ≤ min 10000 (n + 1)) }) ∧
      u.events = { s.events with spacingTimer := min 255 (s.events.spacingTimer + 1) } ∧
      u.link = { s.link with receiver := match s.link.receiver with
        | .hunting => .hunting
        | .assembling got gap => .assembling got (min 11 (gap + 1)) } ∧
      { u with belt := s.belt, position := s.position, lanes := s.lanes, events := s.events,
               link := s.link } = s ∧
      let v := if atTarget then chooseInfeed (handEvent (.line .atSpeed) s.position.count u) else u
      exec .beltTick s = .next
        (if moving && above && !s.belt.slipAbove then faultOccur .beltSlip none v else v)) ∧
  ∀ s : State, s.resetHold = none → s.position.speedDue = true →
    exec .measuredSpeedUpdate s = .next { s with position := { s.position with
      measuredSpeed := 10 * s.position.history.sum, speedDue := false } }

/-- STANDSTILL in DECEL or BRAKE with the timer at 100: STOPPED, the reference 0, STOPPED handed on
with the belt count, and the infeed chooses (R17, R26). ENCODER_STALL where the stall timer has reached
the stall time: one occurrence, and no other until the timer has been set to 0 (R26). -/
def Obligations.StandstillAndStall : Prop :=
  (∀ s : State, s.resetHold = none → (s.belt.state = .decel ∨ s.belt.state = .brake) →
     s.belt.standstillTimer = 100 →
     exec .standstill s = .next (chooseInfeed (handEvent (.line .stopped) s.position.count
       { s with belt := { s.belt with
         state := .stopped, target := 0, reference := 0, stallTimer := 0, stallRaised := false } }))) ∧
  ∀ s : State, s.resetHold = none → 0 < s.belt.stallTime → s.belt.stallTime ≤ s.belt.stallTimer →
    0 < s.belt.reference → (s.belt.state ≠ .stopped ∧ s.belt.state ≠ .brake) →
    (s.belt.stallRaised = false →
      exec .encoderStall s = .next (faultOccur .encoderStall none
        { s with belt := { s.belt with stallRaised := true } })) ∧
    (s.belt.stallRaised = true → exec .encoderStall s = .next s)

/-- BELT_CONFIG (R18): an empty payload reads in every belt state and changes nothing. Four fields of
which one is out of range are refused with BAD_ARG; in range they are refused with BAD_STATE unless the
belt is STOPPED, and there all four take effect and the reply carries them as stored. BELT_SPEED (R22): a
speed out of range is refused with BAD_ARG, and one in range with BAD_STATE in STOPPED, DECEL and BRAKE;
otherwise the target is the new speed, and the state follows by comparing the reference with it. -/
def Obligations.BeltConfigAndSpeed : Prop :=
  (∀ (s : State) (f : Frame), s.Ready f → f.kind = 0x10 →
    (f.payload = [] → exec .beltConfig s = .next (s.taken.answered f .ok
      (leBytes 4 s.belt.accelRate ++ leBytes 4 s.belt.decelRate ++
        leBytes 2 s.belt.deviationLimit ++ leBytes 2 s.belt.stallTime))) ∧
    ∀ accel decel limit stall : Nat,
      accel < 4294967296 → decel < 4294967296 → limit ≤ 65535 → stall ≤ 65535 →
      f.payload = leBytes 4 accel ++ leBytes 4 decel ++ leBytes 2 limit ++ leBytes 2 stall →
      let inRange := (1000 ≤ accel ∧ accel ≤ 2000000) ∧ (1000 ≤ decel ∧ decel ≤ 2000000) ∧
        (stall = 0 ∨ 10 ≤ stall ∧ stall ≤ 2000)
      (¬ inRange → exec .beltConfig s = .next (s.taken.answered f .badArg [])) ∧
      (inRange → s.belt.state ≠ .stopped →
        exec .beltConfig s = .next (s.taken.answered f .badState [])) ∧
      (inRange → s.belt.state = .stopped → exec .beltConfig s = .next ({ s.taken with
        belt := { s.belt with
          accelRate := accel, decelRate := decel, deviationLimit := limit,
          stallTime := stall } }.answered f .ok f.payload))) ∧
  ∀ (s : State) (f : Frame) (speed : Nat), s.Ready f → f.kind = 0x12 → speed < 4294967296 →
    f.payload = leBytes 4 speed →
    let inRange := 1 ≤ speed ∧ speed ≤ 200000
    (¬ inRange → exec .beltSpeed s = .next (s.taken.answered f .badArg [])) ∧
    (inRange → (s.belt.state = .stopped ∨ s.belt.state = .decel ∨ s.belt.state = .brake) →
      exec .beltSpeed s = .next (s.taken.answered f .badState [])) ∧
    (inRange → (s.belt.state = .accel ∨ s.belt.state = .run ∨ s.belt.state = .slow) →
      (s.belt.reference < 1000 * speed → exec .beltSpeed s = .next ((chooseInfeed { s.taken with
        belt := { s.belt with target := speed, state := .accel } }).answered f .ok [])) ∧
      (1000 * speed < s.belt.reference → exec .beltSpeed s = .next ((chooseInfeed { s.taken with
        belt := { s.belt with target := speed, state := .slow } }).answered f .ok [])) ∧
      (s.belt.reference = 1000 * speed →
        (s.belt.state = .run → exec .beltSpeed s = .next ({ s.taken with
          belt := { s.belt with target := speed } }.answered f .ok [])) ∧
        (s.belt.state ≠ .run → exec .beltSpeed s = .next
          ((chooseInfeed (handEvent (.line .atSpeed) s.position.count { s.taken with
            belt := { s.belt with target := speed, state := .run } })).answered f .ok []))))

/-- BELT_START (R19, R21): refused in order by the belt state, a stopping fault, the configuration check;
taken, it sets the target, clears the travels and enters ACCEL. The configuration check passes exactly
when its five items hold (R20). -/
def Obligations.BeltStartChecksInOrder : Prop :=
  (∀ (s : State) (f : Frame) (speed : Nat), s.Ready f → f.kind = 0x11 →
     parseSpeed f.payload = some speed →
     (s.belt.state ≠ .stopped → exec .beltStart s = .next (s.taken.answered f .badState [])) ∧
     (s.belt.state = .stopped → s.stoppingFault = true →
       exec .beltStart s = .next (s.taken.answered f .faultActive [])) ∧
     (s.belt.state = .stopped → s.stoppingFault = false →
       (∀ c, s.configurationCheck = some c →
         exec .beltStart s = .next (s.taken.answered f .badState
           [c.code, optFinByte c.lane, optFinByte c.group])) ∧
       (s.configurationCheck = none → exec .beltStart s = .next ({ s.taken with
         belt := { s.belt with
           state := .accel, target := speed, reference := 0, referenceTravel := 0,
           measuredTravel := 0, deviation := 0, slipAbove := false, stallTimer := 0,
           stallRaised := false } }.answered f .ok [])))) ∧
  ∀ s : State, s.configurationCheck = none ↔
    s.line.maxLength ≤ s.line.decision ∧
    (∀ l : LaneId, (s.lane l).state = .enabled ∨ (s.lane l).state = .draining →
      s.line.decision < (s.lane l).geometry.fireDistance ∧
      (s.lane l).geometry.fireDistance + (s.lane l).geometry.confirmClose < s.line.runout) ∧
    (∀ l : LaneId, s.line.rejectLane = some l → (s.lane l).configured = true) ∧
    ∀ (g : Fin 8) (l : LaneId),
      s.line.noRead = some g ∨ s.line.noRoute = some g ∨ s.line.overflow = some g →
      l ∈ s.members g → (s.lane l).configured = true

/-- BELT_STOP by mode and belt state (R23): the belt and the infeed alone change, the reply carries the
belt state after it, and in BRAKE the brake output is on. -/
def Obligations.BeltStopByModeAndState : Prop :=
  ∀ (s : State) (f : Frame), s.Ready f → f.kind = 0x13 →
    (f.payload = [0] →
      ((s.belt.state = .accel ∨ s.belt.state = .run ∨ s.belt.state = .slow) →
        exec .beltStop s = .next ((chooseInfeed { s.taken with belt := { s.belt with
          state := .decel, target := 0, standstillTimer := 0 } }).answered f .ok [4])) ∧
      (s.belt.state.stopping →
        exec .beltStop s = .next (s.taken.answered f .ok [s.belt.state.code]))) ∧
    (f.payload = [1] →
      (s.belt.state ≠ .brake →
        exec .beltStop s = .next ((chooseInfeed { s.taken with belt := { s.belt with
          state := .brake, target := 0, reference := 0, standstillTimer := 0 } }).answered
            f .ok [5])) ∧
      (s.belt.state = .brake → exec .beltStop s = .next (s.taken.answered f .ok [5]))) ∧
    (f.payload ≠ [0] → f.payload ≠ [1] →
      exec .beltStop s = .next (s.taken.answered f .badArg [])) ∧
    ∀ t, exec .beltStop s = .next t → t.belt.state = .brake → t.brakePin = true

/-- INFEED_SET (R33): the flag is set, the infeed chooses its state, and the reply carries it. The
infeed's choice hands on INFEED_GO exactly when FEEDING is entered and INFEED_HOLD exactly when it is
left, each with the belt count (R27, R32). That the reply carries the state byte alone is the model's
reading (log 35). -/
def Obligations.InfeedSetChoosesState : Prop :=
  (∀ (s : State) (f : Frame) (on : Bool), s.Ready f → f.kind = 0x18 → f.payload = [flagByte on] →
     ∃ t, exec .infeedSet s = .next t ∧ t.infeed.enable = on ∧
       t.infeed.state = { s with infeed := { s.infeed with enable := on } }.infeedChoice ∧
       t.link.replies = s.link.replies ++
         [{ kind := 0x98, tag := f.tag, status := .ok, fields := [t.infeed.state.code] }] ∧
       t.link.commands = s.link.commands.tail ∧
       { t with infeed := s.infeed, events := s.events, link := s.link } = s) ∧
  ∀ s : State,
    let new := s.infeedChoice
    let chosen : State := { s with infeed := { s.infeed with state := new } }
    chooseInfeed s =
      if s.infeed.state ≠ .feeding ∧ new = .feeding then
        handEvent (.line .infeedGo) s.position.count chosen
      else if s.infeed.state = .feeding ∧ new ≠ .feeding then
        handEvent (.line .infeedHold) s.position.count chosen
      else chosen

/-- Every step leaves the infeed in the first state of the list whose condition holds (R27). -/
def Obligations.InfeedStateKept : Prop :=
  ∀ s t : State, s.InfeedChosen → step s = .next t → t.InfeedChosen

/-! ## Tracking -/

/-- A decision trigger behind an older WAITING item whose own decision is not due only marks the item
(R53). The decision of an item with neither key nor direct lane, with no no-read group and no older
WAITING item: the counter advances, the item is numbered and runs out with reason NO_READ, its run-out
trigger armed; no lane is asked (R53 to R55, R64, R105). Where its run-out point is already reached it is
PASSED_END at once (R64). The due decisions behind it are then taken in list order, up to the first WAITING
item whose decision is not due (R53): each of these items is numbered in turn and runs out. -/
def Obligations.DecisionsGoInOrder : Prop :=
  (∀ (s : State) (before after : List Record) (older r : Record), s.resetHold = none →
     s.ListHolds (older :: before) r after → older.state = .waiting → older.decisionDue = false →
     r.state = .waiting → r.decisionArm = .reached →
     exec (.decisionTrigger r.item) s = .next (s.withList
       (older :: before ++ { r with decisionArm := .off, decisionDue := true } :: after))) ∧
  (∀ (s : State) (before after : List Record) (r : Record), s.resetHold = none →
    s.ListHolds before r after → (∀ x ∈ before, x.state ≠ .waiting) →
    (∀ x ∈ after, x.decisionDue = false) → r.state = .waiting → r.decisionArm = .reached →
    r.key = none → r.directLane = none → s.line.noRead = none →
    (r.shortGap = false ∨ (s.source .gapShort).cls ≠ .recover ∨ s.line.rejectLane = none) →
    let t : State := { s with tracking := { s.tracking with
      decisionCounter := s.tracking.decisionCounter + 1
      list := before ++ r.unread (s.tracking.decisionCounter + 1) :: after } }
    (s.Ahead r.runoutPoint → exec (.decisionTrigger r.item) s = .next t) ∧
    (¬ s.Ahead r.runoutPoint →
      exec (.decisionTrigger r.item) s = .next (giveFate r.item .passedEnd none t))) ∧
  ∀ (s : State) (before dues rest : List Record) (r : Record), s.resetHold = none →
    s.tracking.list = before ++ r :: dues ++ rest → (s.tracking.list.map (·.item)).Nodup →
    s.line.noRead = none → (∀ x ∈ before, x.state ≠ .waiting) → r.decisionArm = .reached →
    (∀ x ∈ r :: dues, s.RunsOutUnread x) → (∀ x ∈ dues, x.decisionDue = true) →
    (∀ y, rest.find? (fun x => decide (x.state = .waiting)) = some y → y.decisionDue = false) →
    exec (.decisionTrigger r.item) s = .next { s with tracking := { s.tracking with
      decisionCounter := s.tracking.decisionCounter + BitVec.ofNat 16 (dues.length + 1)
      list := before ++ (r :: dues).zipIdx.map (fun (x : Record × Nat) =>
        x.1.unread (s.tracking.decisionCounter + BitVec.ofNat 16 (x.2 + 1))) ++ rest } }

/-- The selector's choice by case (R103 to R108). A direct lane is tried first; a short-gap item without one
goes to the reject lane or nowhere where GAP_SHORT's class is RECOVER (R104); an item with no key goes by
the no-read group, a keyed one by the entry that matches under the active plan, or by the no-route group.
With no such group it runs out with that reason. A first target that does not accept falls to the overflow
group, then to the reject lane, and with neither the item runs out with OVERFLOW. The reason is that of
the target that accepts, the route index that of the entry that matched, and a group is handed back where
its search chose the lane. -/
def Obligations.SelectionByCase : Prop :=
  ∀ (s : State) (r : Record),
    let found (lane : Option LaneId) (reason : Reason) (route : Option (Fin 32))
        (group : Option (Fin 8)) : Placement := { lane, reason, route, group }
    let straight := r.shortGap = true ∧ (s.source .gapShort).cls = .recover ∧
      s.line.rejectLane.isSome = true
    (∀ l : LaneId, r.directLane = some l → s.select r =
      if s.offerAccepted r.lead l then found (some l) .direct none none
      else s.overflowTry r.lead none) ∧
    (r.directLane = none → straight → ∀ l : LaneId, s.line.rejectLane = some l → s.select r =
      found (if s.offerAccepted r.lead l then some l else none) .reject none none) ∧
    (r.directLane = none → ¬ straight →
      (r.key = none → s.line.noRead = none → s.select r = found none .noRead none none) ∧
      (∀ g : Fin 8, r.key = none → s.line.noRead = some g → s.select r =
        (match s.search r.lead g with
        | some l => found (some l) .noRead none (some g)
        | none => s.overflowTry r.lead none)) ∧
      ∀ k : Key, r.key = some k →
        (s.routes.lookup k s.routes.plan = none → s.line.noRoute = none →
          s.select r = found none .noRoute none none) ∧
        (∀ g : Fin 8, s.routes.lookup k s.routes.plan = none → s.line.noRoute = some g →
          s.select r =
            (match s.search r.lead g with
            | some l => found (some l) .noRoute none (some g)
            | none => s.overflowTry r.lead none)) ∧
        ∀ i : Fin 32, s.routes.lookup k s.routes.plan = some i →
          (∀ l : LaneId, s.routes.entries[i].target = .lane l → s.select r =
            if s.offerAccepted r.lead l then found (some l) .routed (some i) none
            else s.overflowTry r.lead (some i)) ∧
          ∀ g : Fin 8, s.routes.entries[i].target = .group g → s.select r =
            (match s.search r.lead g with
            | some l => found (some l) .routed (some i) (some g)
            | none => s.overflowTry r.lead (some i))) ∧
    ∀ route : Option (Fin 32),
      (∀ (g : Fin 8) (l : LaneId), s.line.overflow = some g → s.search r.lead g = some l →
        s.overflowTry r.lead route = found (some l) .overflow route (some g)) ∧
      ((∀ g : Fin 8, s.line.overflow = some g → s.search r.lead g = none) →
        (∀ l : LaneId, s.line.rejectLane = some l → s.offerAccepted r.lead l = true →
          s.overflowTry r.lead route = found (some l) .reject route none) ∧
        ((∀ l : LaneId, s.line.rejectLane = some l → s.offerAccepted r.lead l = false) →
          s.overflowTry r.lead route = found none .overflow route none))

/-- The decision of the oldest WAITING item takes what the selector finds (R54, R55, R109). The counter
advances and numbers the item, and the entry that matched counts a hit (R78, R92). With a lane the item is
RESERVED at the lane's fire position, the lane's queue holds the entry, and the cursor of the group whose
search chose the lane stands at it (R99, R101, R120 to R122); with none the item runs out, and where its
run-out point is already reached it is PASSED_END at once (R64). A fire position already reached is taken at
once, after the item has become RESERVED, as FIRE_TRIGGER takes it (R7, R121). -/
def Obligations.DecisionTakesTheSelection : Prop :=
  ∀ (s : State) (before after : List Record) (r : Record), s.resetHold = none →
    s.ListHolds before r after → (∀ x ∈ before, x.state ≠ .waiting) →
    (∀ x ∈ after, x.decisionDue = false) → r.state = .waiting → r.decisionArm = .reached →
    let p := s.select r
    let numbered : Record := { r with
      decisionNumber := some (s.tracking.decisionCounter + 1), decisionDue := false
      decisionArm := .off, reason := some p.reason, route := p.route }
    let tracked (x : Record) : Tracking := { s.tracking with
      decisionCounter := s.tracking.decisionCounter + 1, list := before ++ x :: after }
    (∀ l : LaneId, p.lane = some l →
      let fire := r.lead.plus (s.lane l).geometry.fireDistance
      let reserved (arm : Arm) : State := { s with
        tracking := tracked { numbered with
          state := .reserved, lane := some l, firePos := some fire }
        routes := s.routes.withHit p.route
        cursors := match p.group with
          | some g => s.cursors.set g l
          | none => s.cursors }.withLane l { s.lane l with
        queue := (s.lane l).queue ++
          ([{ item := r.item, diverting := false, firePos := fire,
              openPos := fire.plus (s.lane l).geometry.confirmOpen,
              closePos := fire.plus (s.lane l).geometry.confirmClose,
              fireArm := arm, closeArm := .off }] : List Entry)
        lastFire := some fire, lastFireExpiry := .armed }
      s.Ahead (fire.plus 65536) →
      (s.Ahead fire → exec (.decisionTrigger r.item) s = .next (reserved .armed)) ∧
      (¬ s.Ahead fire → (∀ e ∈ (s.lane l).queue, e.diverting = true) →
        exec (.decisionTrigger r.item) s = exec (.fireTrigger l) (reserved .reached))) ∧
    (p.lane = none →
      let ran (arm : Arm) : State := { s with
        tracking := tracked { numbered with
          state := .runout, lane := none, firePos := none, runoutArm := arm }
        routes := s.routes.withHit p.route }
      (s.Ahead r.runoutPoint → exec (.decisionTrigger r.item) s = .next (ran .armed)) ∧
      (¬ s.Ahead r.runoutPoint →
        exec (.decisionTrigger r.item) s = .next (giveFate r.item .passedEnd none (ran .reached))))

/-- Giving a tracked item its fate (R65 to R68, R71): the record leaves the list and is fate-pending with
the fate and the confirm offset, every other field kept, its FATE report joins the tail of the item report
queue, and the fences are told. That the report of an item in RUNOUT carries its route index, as R63 and the
table of R71 say, against a sentence of R71 that calls it absent, is the model's reading (log 32).
RUNOUT_TRIGGER gives PASSED_END. An item that enters RUNOUT loses its lane and fire position and has its
run-out trigger armed, and where its run-out point is already reached it is PASSED_END at once (R63, R64).
Every fence that covers the departed item counts down, and each that is then at 0 leaves the list with its
OK reply queued, in list order (R139, R140). A number is at or before a boundary when up to 63 steps along
the numbers 1 to 65535 lead from it to the boundary (R137). -/
def Obligations.RunoutPassesTheEnd : Prop :=
  (∀ (s : State) (before after : List Record) (r : Record) (fate : Fate) (offset : Option Int),
     s.ListHolds before r after →
     giveFate r.item fate offset s = fenceNotice r.item { s with
       tracking := { s.tracking with
         list := before ++ after
         fatePending := s.tracking.fatePending ++ [{ r with
           confirmOffset := offset, fate := some fate, decisionDue := false
           decisionArm := .off, runoutArm := .off }] }
       link := { s.link with itemReports := s.link.itemReports ++
         [.fate { item := r.item, fate := fate, lane := r.lane, reason := r.reason
                  route := r.route, key := r.key, decisionNumber := r.decisionNumber.getD 0
                  confirmOffset := offset }] } }) ∧
  (∀ (s : State) (before after : List Record) (r : Record), s.resetHold = none →
     s.ListHolds before r after → r.state = .runout → r.runoutArm = .reached →
     exec (.runoutTrigger r.item) s = .next (giveFate r.item .passedEnd none s)) ∧
  (∀ (s : State) (before after : List Record) (r : Record) (reason : Reason),
     s.ListHolds before r after →
     let out (arm : Arm) : State := s.withList (before ++ { r with
       state := .runout, reason := some reason, lane := none, firePos := none
       runoutArm := arm } :: after)
     (s.Ahead r.runoutPoint → enterRunout r.item reason s = out .armed) ∧
     (¬ s.Ahead r.runoutPoint →
       enterRunout r.item reason s = giveFate r.item .passedEnd none (out .reached))) ∧
  (∀ (s : State) (item : Nat),
    let told := s.tracking.fences.map fun e => { e with
      remaining := if atOrBefore item e.boundary then e.remaining - 1 else e.remaining }
    fenceNotice item s = { s with
      tracking := { s.tracking with fences := told.filter fun e => e.remaining ≠ 0 }
      link := { s.link with replies := s.link.replies ++
        (told.filter fun e => e.remaining = 0).map fun e =>
          { kind := 0xA5, tag := e.tag, status := .ok
            fields := e.scope.code :: (leBytes 2 e.boundary ++ [byteOf e.covered, 0]) } } }) ∧
  ∀ item boundary : Nat, 1 ≤ item → item ≤ 65535 → 1 ≤ boundary → boundary ≤ 65535 →
    (atOrBefore item boundary = true ↔ ∃ k ≤ 63, (item - 1 + k) % 65535 + 1 = boundary)

/-- ASSIGN and ASSIGN_LANE on a WAITING item each replace the other's request, and answer OK with the item
number and state; on a decided or fate-pending item they change nothing and answer TOO_LATE, and of an
unknown one NOT_FOUND (R56 to R58). That each reply carries the item's stage and then its state or fate is
the model's reading (log 28), and so is that both are absent of an unknown one (log 15). -/
def Obligations.AssignReplacesTheRequest : Prop :=
  ∀ (s : State) (f : Frame) (c : Instr) (item : Nat) (change : Record → Record), s.Ready f →
    ((∃ key : Option Key, c = .assign ∧ f.kind = 0x20 ∧ parseAssign f.payload = some (item, key) ∧
        change = fun r => { r with key := key, directLane := none }) ∨
      ∃ l : LaneId, c = .assignLane ∧ f.kind = 0x21 ∧ parseAssignLane f.payload = some (item, l) ∧
        change = fun r => { r with key := none, directLane := some l }) →
    (∀ before r after, s.ListHolds before r after → r.item = item →
      (r.state = .waiting → exec c s = .next
        ((s.taken.withList (before ++ change r :: after)).answered f .ok
          (leBytes 2 item ++ [0, 0]))) ∧
      (r.state ≠ .waiting → exec c s =
        .next (s.taken.answered f .tooLate (leBytes 2 item ++ [0, r.state.code])))) ∧
    ((∀ x ∈ s.tracking.list, x.item ≠ item) →
      (∀ before r after, s.tracking.fatePending = before ++ r :: after → r.item = item →
        (∀ x ∈ before, x.item ≠ item) → exec c s = .next (s.taken.answered f .tooLate
          (leBytes 2 item ++ [1, optCode Fate.code r.fate]))) ∧
      ((∀ x ∈ s.tracking.fatePending, x.item ≠ item) → exec c s =
        .next (s.taken.answered f .notFound (leBytes 2 item ++ [0xFF, 0xFF]))))

/-- CANCEL by the record's state (R59 to R61): a WAITING item is decided CANCELLED and numbered; a
RESERVED one leaves its lane's queue, and the lane tests its exit (R116, R130); with the oldest WAITING item
cancelled, the due decisions behind it are taken in list order (R53); a RUNOUT one answers OK
with the no-change marker; a DIVERTING one and a fate-pending one answer TOO_LATE and an unknown one
NOT_FOUND, the marker a free value (log 13) and the fields after it the model's reading (logs 15 and
28). -/
def Obligations.CancelByItemState : Prop :=
  (∀ (s : State) (f : Frame) (before after : List Record) (r : Record), s.Ready f → f.kind = 0x22 →
    parseItem f.payload = some r.item → s.ListHolds before r after →
    (r.state = .waiting → s.Ahead r.runoutPoint → (∀ x ∈ before ++ after, x.decisionDue = false) →
      exec .cancel s = .next ({ s.taken with tracking := { s.tracking with
        decisionCounter := s.tracking.decisionCounter + 1
        list := before ++ { r with
          state := .runout, reason := some .cancelled, route := none, lane := none
          firePos := none, decisionNumber := some (s.tracking.decisionCounter + 1)
          decisionDue := false, decisionArm := .off, runoutArm := .armed } :: after } }.answered
        f .ok (leBytes 2 r.item ++ [0, 0, 3]))) ∧
    (∀ dues rest : List Record, r.state = .waiting → s.Ahead r.runoutPoint → after = dues ++ rest →
      (s.tracking.list.map (·.item)).Nodup → s.line.noRead = none →
      (∀ x ∈ before, x.state ≠ .waiting) → (∀ x ∈ dues, s.RunsOutUnread x) →
      (∀ x ∈ dues, x.decisionDue = true) →
      (∀ y, rest.find? (fun x => decide (x.state = .waiting)) = some y → y.decisionDue = false) →
      exec .cancel s = .next ({ s.taken with tracking := { s.tracking with
        decisionCounter := s.tracking.decisionCounter + BitVec.ofNat 16 (dues.length + 1)
        list := before ++ { r with
          state := .runout, reason := some .cancelled, route := none, lane := none
          firePos := none, decisionNumber := some (s.tracking.decisionCounter + 1)
          decisionDue := false, decisionArm := .off, runoutArm := .armed } ::
          dues.zipIdx.map (fun (x : Record × Nat) =>
            x.1.unread (s.tracking.decisionCounter + BitVec.ofNat 16 (x.2 + 2))) ++ rest } }.answered
        f .ok (leBytes 2 r.item ++ [0, 0, 3]))) ∧
    (∀ (l : LaneId) (front : List Entry) (e : Entry) (back : List Entry), r.state = .reserved →
      r.lane = some l → s.Ahead r.runoutPoint → (s.lane l).queue = front ++ e :: back →
      e.item = r.item → e.diverting = false → (∀ x ∈ front ++ back, x.item ≠ r.item) →
      exec .cancel s = .next ({ testExit l (s.taken.withLane l { s.lane l with
          queue := front ++ back }) with tracking := { s.tracking with
        list := before ++ { r with
          state := .runout, reason := some .cancelled, lane := none, firePos := none
          runoutArm := .armed } :: after } }.answered f .ok (leBytes 2 r.item ++ [0, 0, 3]))) ∧
    (r.state = .runout →
      exec .cancel s = .next (s.taken.answered f .ok (leBytes 2 r.item ++ [1, 0, 3]))) ∧
    (r.state = .diverting → ∃ m : Bool,
      exec .cancel s = .next ({ s.taken with freeCount := s.freeCount + 1 }.answered
        f .tooLate (leBytes 2 r.item ++ [flagByte m, 0, 2])))) ∧
  ∀ (s : State) (f : Frame) (item : Nat), s.Ready f → f.kind = 0x22 →
    parseItem f.payload = some item → (∀ x ∈ s.tracking.list, x.item ≠ item) →
    (∀ before r after, s.tracking.fatePending = before ++ r :: after → r.item = item →
      (∀ x ∈ before, x.item ≠ item) → ∃ m : Bool, exec .cancel s =
        .next ({ s.taken with freeCount := s.freeCount + 1 }.answered f .tooLate
          (leBytes 2 item ++ [flagByte m, 1, optCode Fate.code r.fate]))) ∧
    ((∀ x ∈ s.tracking.fatePending, x.item ≠ item) → ∃ m : Bool, exec .cancel s =
      .next ({ s.taken with freeCount := s.freeCount + 1 }.answered f .notFound
        (leBytes 2 item ++ [flagByte m, 0xFF, 0xFF])))

/-- TRACK_READ, from the head of the list or from a tracked item named, and ITEM_READ change nothing but the
link: the counts, the summaries in list order, the more-follow flag and the next number; the stage and every
field, the state absent of a fate-pending record (R72, R73). A first item that is not tracked, and a number
that names no record, are answered NOT_FOUND. The order of the fields is the model's reading where R190
spells out no reply byte by byte (log 28). -/
def Obligations.ItemReadsShowTheRecord : Prop :=
  (∀ (s : State) (f : Frame) (n : Nat) (first : Option Nat) (shown : List Record), s.Ready f →
    f.kind = 0x23 → parseTrackRead f.payload = some (first, n) →
    (first = none ∧ shown = s.tracking.list ∨
      ∃ before r after, s.ListHolds before r after ∧ first = some r.item ∧ shown = r :: after) →
    exec .trackRead s = .next (s.taken.answered f .ok
      ([byteOf s.tracking.list.length, byteOf (decidedPrefix s.tracking.list).length,
        byteOf (min n shown.length)] ++
        (shown.take n).flatMap (fun r => leBytes 2 r.item ++
          [r.state.code, flagByte r.decisionDue] ++ leBytes 4 r.lead.toNat ++
          [optFinByte r.lane, optCode Reason.code r.reason]) ++
        (match (shown.drop n).head? with
          | some r => 1 :: leBytes 2 r.item
          | none => [0, 0xFF, 0xFF])))) ∧
  (∀ (s : State) (f : Frame) (n item : Nat), s.Ready f → f.kind = 0x23 →
    parseTrackRead f.payload = some (some item, n) → (∀ x ∈ s.tracking.list, x.item ≠ item) →
    exec .trackRead s = .next (s.taken.answered f .notFound [])) ∧
  ∀ (s : State) (f : Frame) (item : Nat), s.Ready f → f.kind = 0x24 →
    parseItem f.payload = some item →
    let fields (stage state : Byte) (r : Record) : List Byte :=
      stage :: (leBytes 2 r.item ++ leBytes 4 r.lead.toNat ++ leBytes 2 r.length ++
        [flagByte r.shortGap] ++ leBytes 4 r.decisionPoint.toNat ++
        leBytes 4 r.runoutPoint.toNat ++ [flagByte r.decisionDue] ++ keyBytes r.key ++
        [optFinByte r.directLane, state] ++
        leBytes 2 (r.decisionNumber.getD 0).toNat ++
        [optFinByte r.lane, optCode Reason.code r.reason, optFinByte r.route] ++
        optWordBytes r.firePos ++ [optCode Fate.code r.fate] ++ offsetBytes r.confirmOffset)
    (∀ before r after, s.ListHolds before r after → r.item = item →
      exec .itemRead s = .next (s.taken.answered f .ok (fields 0 r.state.code r))) ∧
    ((∀ x ∈ s.tracking.list, x.item ≠ item) →
      (∀ before r after, s.tracking.fatePending = before ++ r :: after → r.item = item →
        (∀ x ∈ before, x.item ≠ item) →
        exec .itemRead s = .next (s.taken.answered f .ok (fields 1 0xFF r))) ∧
      ((∀ x ∈ s.tracking.fatePending, x.item ≠ item) →
        exec .itemRead s = .next (s.taken.answered f .notFound [])))

/-- FENCE by the first case that applies (R136 to R138): an empty scope is answered at once; with four
fences outstanding it is refused; otherwise an entry with the boundary and counts joins the list and no
reply is queued. The boundary is the youngest record of the tracking list for ALL, of the decided prefix
for DECIDED. That the covered set is the tracked records up to 63 steps before the boundary, and not the
whole list or prefix where live numbers span more, is the model's reading of R137 (log 34). -/
def Obligations.FenceByCase : Prop :=
  ∀ (s : State) (f : Frame) (scope : FenceScope) (reached : List Record), s.Ready f →
    f.kind = 0x25 → f.payload = [scope.code] →
    reached = (match scope with
      | .all => s.tracking.list
      | .decided => s.tracking.list.takeWhile fun r => r.state ≠ .waiting) →
    (reached = [] →
      exec .fence s = .next (s.taken.answered f .ok [scope.code, 0xFF, 0xFF, 0, 0])) ∧
    ∀ (front : List Record) (r : Record), reached = front ++ [r] →
      (s.tracking.fences.length = 4 →
        exec .fence s = .next (s.taken.answered f .full [scope.code, 4])) ∧
      (s.tracking.fences.length < 4 →
        let covered := s.tracking.list.countP fun x => atOrBefore x.item r.item
        exec .fence s = .next { s.taken with tracking := { s.tracking with
          fences := s.tracking.fences ++
            [{ tag := f.tag, scope := scope, boundary := r.item
               covered := covered, remaining := covered }] } })

/-! ## Route table and selector -/

/-- ROUTE_WRITE (R81): refused naming the lowest-numbered other valid entry that overlaps, else the entry
at the index is replaced. ROUTE_WRITE_NEXT (R83 to R85) chooses the lowest invalid index and leaves the
cursor, or with every entry valid the first unlocked one at or after the cursor, passing over locked ones,
and moves the cursor past it; it is refused in the same way for an overlap with another entry, and with
every entry valid and locked it is FULL. That an OK reply carries the index and then the entry's fields is
the model's reading (log 28). -/
def Obligations.RouteWritesByOverlap : Prop :=
  (∀ (s : State) (f : Frame) (i : Fin 32) (e : RouteEntry), s.Ready f → f.kind = 0x28 →
    parseRouteWrite f.payload = some (i, e) →
    ((∀ j : Fin 32, j ≠ i → s.routes.entries[j].valid = true →
        s.routes.entries[j].overlaps e = false) →
      exec .routeWrite s = .next ({ s.taken with routes := { s.routes with
        entries := s.routes.entries.set i e } }.answered f .ok (byteOf i.val :: e.bytes))) ∧
    ∀ j : Fin 32, j ≠ i → s.routes.entries[j].valid = true →
      s.routes.entries[j].overlaps e = true →
      (∀ k : Fin 32, k < j → k ≠ i → s.routes.entries[k].valid = true →
        s.routes.entries[k].overlaps e = false) →
      exec .routeWrite s = .next (s.taken.answered f .overlap [byteOf j.val])) ∧
  ∀ (s : State) (f : Frame) (e : RouteEntry), s.Ready f → f.kind = 0x29 →
    parseRouteWriteNext f.payload = some e →
    (∀ (i : Fin 32) (replaced : Bool),
      (replaced = false ∧ s.routes.entries[i].valid = false ∧
          (∀ k : Fin 32, k < i → s.routes.entries[k].valid = true) ∨
        replaced = true ∧ (∀ k : Fin 32, s.routes.entries[k].valid = true) ∧
          s.routes.entries[i].locked = false ∧
          ∀ k : Fin 32, k - s.routes.cursor < i - s.routes.cursor →
            s.routes.entries[k].locked = true) →
      ((∀ j : Fin 32, j ≠ i → s.routes.entries[j].valid = true →
          s.routes.entries[j].overlaps e = false) →
        exec .routeWriteNext s = .next ({ s.taken with routes := { s.routes with
          entries := s.routes.entries.set i e
          cursor := if replaced then i + 1 else s.routes.cursor } }.answered f .ok
            (byteOf i.val :: flagByte replaced :: e.bytes))) ∧
      ∀ j : Fin 32, j ≠ i → s.routes.entries[j].valid = true →
        s.routes.entries[j].overlaps e = true →
        (∀ k : Fin 32, k < j → k ≠ i → s.routes.entries[k].valid = true →
          s.routes.entries[k].overlaps e = false) →
        exec .routeWriteNext s = .next (s.taken.answered f .overlap [byteOf j.val])) ∧
    ((∀ k : Fin 32, s.routes.entries[k].valid = true ∧ s.routes.entries[k].locked = true) →
      exec .routeWriteNext s = .next (s.taken.answered f .full []))

/-- No two valid route entries overlap: every step keeps this, whatever the host writes (R79). -/
def Obligations.RouteEntriesStayApart : Prop :=
  ∀ s t : State, s.RoutesApart → step s = .next t → t.RoutesApart

/-- With no two valid entries overlapping, at most one entry matches a key under a plan, so a lookup
answers with that entry and no order of the entries bears on it (R78, R79). ROUTE_PROBE answers with
the plan used and the matching entry, or NOT_FOUND, and changes nothing but the link: no hit, no cursor
(R86). -/
def Obligations.OneEntryMatches : Prop :=
  (∀ (s : State) (k : Key) (p : Fin 16) (i : Fin 32), s.RoutesApart →
     (s.routes.lookup k p = some i ↔ s.routes.entries[i].matchesKey k p = true)) ∧
  ∀ (s : State) (f : Frame) (k : Key) (p : Option (Fin 16)), s.Ready f → f.kind = 0x2B →
    parseRouteProbe f.payload = some (k, p) →
    exec .routeProbe s = .next
      (match s.routes.lookup k (p.getD s.routes.plan) with
      | some i => s.taken.answered f .ok
          (byteOf (p.getD s.routes.plan).val :: byteOf i.val :: s.routes.entries[i].target.bytes)
      | none => s.taken.answered f .notFound [byteOf (p.getD s.routes.plan).val])

/-- IDENTIFY (R183): the codes and the bit rate in force; a non-empty payload is refused. ROUTE_READ with an
index answers that entry's fields, and with the index absent the summary of the table; an index from 32
to 254 or another length is refused (R87, R88). GROUP_READ answers the group, its members in lane order,
its cursor and its three marks; a group above 7 or another length is refused (R98). None of them changes
anything but the link. -/
def Obligations.IdentifyRouteAndGroupReads : Prop :=
  (∀ (s : State) (f : Frame), s.Ready f → f.kind = 0x01 →
    (f.payload = [] → exec .identify s = .next (s.taken.answered f .ok
      [0x91, 0x04, 0x16, 0x03, 1, if s.link.fast then 1 else 0])) ∧
    (f.payload ≠ [] → exec .identify s = .next (s.taken.answered f .badArg []))) ∧
  (∀ (s : State) (f : Frame), s.Ready f → f.kind = 0x2A →
    (∀ i : Fin 32, f.payload = [byteOf i.val] →
      let e := s.routes.entries[i]
      exec .routeRead s = .next (s.taken.answered f .ok
        (flagByte e.valid :: (leBytes 4 e.key.toNat ++ leBytes 4 e.mask.toNat ++
          [byteOf e.plan.val, flagByte e.allPlans] ++
          (match e.target with
          | .lane l => [0, byteOf l.val]
          | .group g => [1, byteOf g.val]) ++ [flagByte e.locked] ++ leBytes 2 e.hits)))) ∧
    (f.payload = [0xFF] → ∃ valid locked : BitVec 32,
      (∀ i : Fin 32, valid.getLsbD i.val = s.routes.entries[i].valid) ∧
      (∀ i : Fin 32, locked.getLsbD i.val = s.routes.entries[i].locked) ∧
      exec .routeRead s = .next (s.taken.answered f .ok
        ([byteOf s.routes.plan.val, byteOf s.routes.cursor.val,
          byteOf ((List.finRange 32).countP fun i : Fin 32 => s.routes.entries[i].valid),
          byteOf ((List.finRange 32).countP fun i : Fin 32 =>
            s.routes.entries[i].valid && s.routes.entries[i].locked)] ++
          leBytes 4 valid.toNat ++ leBytes 4 locked.toNat))) ∧
    ((∀ i : Fin 32, f.payload ≠ [byteOf i.val]) → f.payload ≠ [0xFF] →
      exec .routeRead s = .next (s.taken.answered f .badArg []))) ∧
  ∀ (s : State) (f : Frame), s.Ready f → f.kind = 0x31 →
    (∀ g : Fin 8, f.payload = [byteOf g.val] →
      exec .groupRead s = .next (s.taken.answered f .ok
        ([byteOf g.val, byteOf (s.members g).length] ++
          (s.members g).map (fun l => byteOf l.val) ++
          [byteOf s.cursors[g].val, flagByte (decide (s.line.noRead = some g)),
           flagByte (decide (s.line.noRoute = some g)),
           flagByte (decide (s.line.overflow = some g))]))) ∧
    ((∀ g : Fin 8, f.payload ≠ [byteOf g.val]) →
      exec .groupRead s = .next (s.taken.answered f .badArg [])) ∧
    ∀ (g : Fin 8) (l : LaneId), l ∈ s.members g ↔
      g = 7 ∨ ∃ k : Fin 4, (s.lane l).slots[k].map Fin.val = some g.val

/-- ROUTE_CLEAR of one index, of the unlocked entries, and of every entry, with the number of valid
entries cleared; the cursor and the active plan stay (R89, R90). PLAN_SELECT makes the given plan active
and answers the plan before it and the plan now active (R91). GROUP_SET replaces the four slots of one
lane and answers them with the lane's groups (R97). -/
def Obligations.ClearPlanAndGroups : Prop :=
  (∀ (s : State) (f : Frame), s.Ready f → f.kind = 0x2C →
     (∀ i : Fin 32, f.payload = [byteOf i.val] →
       exec .routeClear s = .next ({ s.taken with routes := { s.routes with
         entries := s.routes.entries.set i .cleared } }.answered f .ok
           [if s.routes.entries[i].valid then 1 else 0])) ∧
     ∀ all : Bool, f.payload = [if all then 0x21 else 0x20] →
       ∃ t, exec .routeClear s = .next t ∧ t.routes.plan = s.routes.plan ∧
         t.routes.cursor = s.routes.cursor ∧
         (∀ i : Fin 32, t.routes.entries[i] =
           if all || (s.routes.entries[i].valid && !s.routes.entries[i].locked) then .cleared
           else s.routes.entries[i]) ∧
         t = { s.taken with routes := t.routes }.answered f .ok
           [byteOf ((List.finRange 32).countP fun i : Fin 32 =>
             s.routes.entries[i].valid && (all || !s.routes.entries[i].locked))]) ∧
  (∀ (s : State) (f : Frame) (p : Fin 16), s.Ready f → f.kind = 0x2D → f.payload = [byteOf p.val] →
     exec .planSelect s = .next ({ s.taken with routes := { s.routes with plan := p } }.answered f .ok
       [byteOf s.routes.plan.val, byteOf p.val])) ∧
  ∀ (s : State) (f : Frame) (l : LaneId) (slots : Vector (Option (Fin 7)) 4), s.Ready f →
    f.kind = 0x30 → parseGroupSet f.payload = some (l, slots) →
    ∃ groups : BitVec 8,
      (∀ g : Fin 8, groups.getLsbD g.val =
        (decide (g = 7) || slots.toList.any fun x => decide (x.map Fin.val = some g.val))) ∧
      exec .groupSet s = .next ((s.taken.withLane l { s.lane l with slots := slots }).answered f .ok
        (byteOf l.val :: (slots.toList.map optFinByte ++ [groups])))

/-- A search asks the members above the cursor in lane order and then the rest, each once, and chooses the
first that accepts (R100). A lane accepts an offer exactly when it is ENABLED, not FULL, holds fewer
than four entries, and the fire position is at least the pitch beyond the last one, if there is one
(R120). -/
def Obligations.SearchGoesRoundRobin : Prop :=
  (∀ (s : State) (lead : Word) (g : Fin 8),
     (∀ l, s.search lead g = some l →
       l ∈ s.members g ∧ s.offerAccepted lead l = true ∧
       ∀ m ∈ s.members g, s.offerAccepted lead m = true →
         (s.cursors[g] < l → s.cursors[g] < m → l ≤ m) ∧
         (l ≤ s.cursors[g] → m ≤ s.cursors[g] ∧ l ≤ m)) ∧
     (s.search lead g = none ↔ ∀ m ∈ s.members g, s.offerAccepted lead m = false)) ∧
  ∀ (u : LaneUnit) (fire : Word), u.accepts fire = true ↔
    u.state = .enabled ∧ u.full = false ∧ u.queue.length < 4 ∧
      ∀ p, u.lastFire = some p → (u.geometry.pitch : Int) ≤ (fire - p).toInt

/-! ## Lanes -/

/-- FIRE_TRIGGER of the oldest RESERVED entry. With the diverter IDLE (R62, R123): EXTEND, the dwell-end and
window-close triggers armed, the entry and the item DIVERTING. A dwell end already reached as it is armed is
taken at once after the fire, as DWELL_END takes it, and then the entry's own window close where that is
reached: a miss (R123, R129); that the dwell end comes first of the two is the model's reading of R7
(log 40). With the diverter busy, an overrun (R124): the cycle goes on as it was, the
entry is removed, the item runs out with DIVERTER_BUSY, its lane and fire position absent and its run-out
trigger armed (R63, R64), the lane tests its exit (R116), and DIVERTER_OVERRUN naming the lane is handed
on. -/
def Obligations.FireTriggerByPhase : Prop :=
  (∀ (s : State) (l : LaneId) (front : List Entry) (e : Entry) (back : List Entry), s.resetHold = none →
     (s.lane l).phase = .idle → (s.lane l).queue = front ++ e :: back →
     (∀ x ∈ front, x.diverting = true) → (∀ x ∈ front ++ back, x.item ≠ e.item) →
     e.diverting = false → e.fireArm = .reached →
     let dwellEnd := e.firePos.plus (s.lane l).geometry.dwell
     let fired (dwelt : Bool) (close : Arm) : State :=
       (s.withList (s.tracking.list.map fun r =>
         if r.item = e.item then { r with state := .diverting } else r)).withLane l { s.lane l with
       queue := front ++ { e with diverting := true, fireArm := .off, closeArm := close } :: back
       phase := .extend, phaseTimer := 0, phaseLength := 0
       dwellEnd := some { pos := dwellEnd, reached := dwelt } }
     let dwelt (close : Arm) (v : State) : Prop :=
       (s.Ahead dwellEnd → v = fired false close) ∧
       (¬ s.Ahead dwellEnd → exec (.dwellEnd l) (fired true close) = .next v)
     (s.Ahead e.closePos → ∃ v, dwelt .armed v ∧ exec (.fireTrigger l) s = .next v) ∧
     (¬ s.Ahead e.closePos → ∃ v, dwelt .reached v ∧
       exec (.fireTrigger l) s = .next (faultOccur .divertMiss (some l)
         (testExit l (handEvent (.lane l .miss) e.closePos (giveFate e.item .missed none
           (v.withLane l { v.lane l with queue := front ++ back }))))))) ∧
  ∀ (s : State) (l : LaneId) (front : List Entry) (e : Entry) (back : List Entry), s.resetHold = none →
    (s.lane l).phase ≠ .idle → (s.lane l).queue = front ++ e :: back →
    (∀ x ∈ front, x.diverting = true) → (∀ x ∈ front ++ back, x.item ≠ e.item) →
    e.diverting = false → e.fireArm = .reached →
    let left := s.withLane l { s.lane l with queue := front ++ back }
    exec (.fireTrigger l) s = .next (faultOccur .diverterOverrun (some l)
      (testExit l (enterRunout e.item .diverterBusy left))) ∧
    ∀ before r after, s.ListHolds before r after → r.item = e.item → s.Ahead r.runoutPoint →
      enterRunout e.item .diverterBusy left = left.withList (before ++ { r with
        state := .runout, reason := some .diverterBusy, lane := none, firePos := none
        runoutArm := .armed } :: after)

/-- DWELL_END, RETRACT_END and SETTLE_END (R125): each phase ends when its own trigger or count says so,
and a phase whose time is 0 is passed through; at the dwell end the lane tests its exit (R116).
FULL_DELAY_EXPIRY, LANE_JAM_EXPIRY and LAST_FIRE_EXPIRY: FULL with its event, the jam flag with its
fault, the last fire position absent (R122, R131, R132). A full-sensor edge to active sets FULL at once
where the full delay is 0 and starts the full timer otherwise; one to inactive stops the timer and ends
FULL, with FREE carrying the edge's stamp (R113, R131). -/
def Obligations.LaneTimersAndPhases : Prop :=
  (∀ (s : State) (l : LaneId), s.resetHold = none →
     (∀ p : Word, (s.lane l).phase = .extend →
       (s.lane l).dwellEnd = some { pos := p, reached := true } →
       exec (.dwellEnd l) s = .next (testExit l (s.withLane l (
         if (s.lane l).geometry.retractTime ≠ 0 then { s.lane l with
           dwellEnd := none, phase := .retract, phaseTimer := 0
           phaseLength := (s.lane l).geometry.retractTime }
         else if (s.lane l).geometry.settleTime ≠ 0 then { s.lane l with
           dwellEnd := none, phase := .settle, phaseTimer := 0
           phaseLength := (s.lane l).geometry.settleTime }
         else { s.lane l with
           dwellEnd := none, phase := .idle, phaseTimer := 0, phaseLength := 0 })))) ∧
     ((s.lane l).phase = .retract → (s.lane l).phaseLength ≤ (s.lane l).phaseTimer →
       exec (.retractEnd l) s = .next (s.withLane l (
         if (s.lane l).geometry.settleTime ≠ 0 then { s.lane l with
           phase := .settle, phaseTimer := 0, phaseLength := (s.lane l).geometry.settleTime }
         else { s.lane l with phase := .idle, phaseTimer := 0, phaseLength := 0 }))) ∧
     ((s.lane l).phase = .settle → (s.lane l).phaseLength ≤ (s.lane l).phaseTimer →
       exec (.settleEnd l) s = .next (s.withLane l { s.lane l with
         phase := .idle, phaseTimer := 0, phaseLength := 0 })) ∧
     ((s.lane l).phase = .retract → (s.lane l).phaseTimer < (s.lane l).phaseLength →
       exec (.retractEnd l) s = .next s)) ∧
  (∀ (s : State) (l : LaneId) (stamp : Word),
    ((s.lane l).geometry.fullDelay = 0 → handEdge (.fullSensor l) true stamp s =
      handEvent (.lane l .full) s.position.count
        (s.withLane l { s.lane l with full := true, fullTimer := none, fullDue := false })) ∧
    ((s.lane l).geometry.fullDelay ≠ 0 → handEdge (.fullSensor l) true stamp s =
      s.withLane l { s.lane l with fullTimer := some 0, fullDue := false }) ∧
    let free := s.withLane l { s.lane l with full := false, fullTimer := none, fullDue := false }
    handEdge (.fullSensor l) false stamp s =
      if (s.lane l).full then handEvent (.lane l .free) stamp free else free) ∧
  ∀ (s : State) (l : LaneId), s.resetHold = none →
    ((s.lane l).fullDue = true →
      exec (.fullDelayExpiry l) s = .next (handEvent (.lane l .full) s.position.count
        (s.withLane l { s.lane l with full := true, fullTimer := none, fullDue := false }))) ∧
    ((s.lane l).jamDue = true →
      exec (.laneJamExpiry l) s = .next (faultOccur .laneJam (some l)
        (s.withLane l { s.lane l with jam := true, jamTimer := none, jamDue := false }))) ∧
    ((s.lane l).lastFireExpiry = .reached →
      exec (.lastFireExpiry l) s = .next
        (s.withLane l { s.lane l with lastFire := none, lastFireExpiry := .off }))

/-- WINDOW_CLOSE_TRIGGER (R129): the entry leaves, the item is MISSED, MISS carries the window close
position, the lane tests its exit (R116), and DIVERT_MISS naming the lane is handed on. A confirm edge to
blocked starts the jam timer where the jam watch is enabled (R132). It is credited with its offset to the
oldest DIVERTING entry whose window contains it, and the lane tests its exit; one that no window contains
is a stray that leaves the queue alone (R127, R128). An unconfigured lane discards it (R113). An edge to
clear stops the jam timer and ends the jam flag (R132). -/
def Obligations.WindowEndsTheEntry : Prop :=
  (∀ (s : State) (l : LaneId) (front : List Entry) (e : Entry) (back : List Entry), s.resetHold = none →
     (s.lane l).queue = front ++ e :: back →
     (∀ x ∈ front, x.diverting = true → x.closeArm ≠ .reached) →
     (∀ x ∈ front ++ back, x.item ≠ e.item) → e.diverting = true → e.closeArm = .reached →
     exec (.windowCloseTrigger l) s = .next (faultOccur .divertMiss (some l)
       (testExit l (handEvent (.lane l .miss) e.closePos (giveFate e.item .missed none
         (s.withLane l { s.lane l with queue := front ++ back })))))) ∧
  (∀ (s : State) (l : LaneId) (stamp : Word), (s.lane l).configured = true →
    let watched : LaneUnit := if (s.lane l).geometry.jamTime = 0 then s.lane l
      else { s.lane l with jamTimer := some 0, jamDue := false }
    (∀ (front : List Entry) (e : Entry) (back : List Entry), (s.lane l).queue = front ++ e :: back →
      (∀ x ∈ front, x.diverting = true →
        Word.diff stamp x.openPos < 0 ∨ 0 ≤ Word.diff stamp x.closePos) →
      e.diverting = true → 0 ≤ Word.diff stamp e.openPos → Word.diff stamp e.closePos < 0 →
      (∀ x ∈ front ++ back, x.item ≠ e.item) →
      handEdge (.confirmEye l) true stamp s = testExit l (handEvent (.lane l .confirm) stamp
        (giveFate e.item .diverted (some (Word.diff stamp e.firePos))
          (s.withLane l { watched with queue := front ++ back })))) ∧
    ((∀ e ∈ (s.lane l).queue, e.diverting = true →
        Word.diff stamp e.openPos < 0 ∨ 0 ≤ Word.diff stamp e.closePos) →
      handEdge (.confirmEye l) true stamp s =
        faultOccur .strayItem (some l) (s.withLane l watched))) ∧
  ∀ (s : State) (l : LaneId) (stamp : Word),
    ((s.lane l).configured = false → handEdge (.confirmEye l) true stamp s = s) ∧
    handEdge (.confirmEye l) false stamp s =
      s.withLane l { s.lane l with jamTimer := none, jamDue := false, jam := false }

/-- LANE_CONFIG (R114): taken with the lane DISABLED or FENCED and the belt STOPPED, all nine fields take
effect and the lane is configured; otherwise it is refused with BAD_STATE. -/
def Obligations.LaneConfigNeedsRest : Prop :=
  ∀ (s : State) (f : Frame) (l : LaneId) (g : Geometry), s.Ready f → f.kind = 0x38 →
    parseLaneConfig f.payload = some (l, g) →
    (((s.lane l).state = .disabled ∨ (s.lane l).state = .fenced) → s.belt.state = .stopped →
      ∃ t, exec .laneConfig s = .next t ∧ (t.lane l).geometry = g ∧ (t.lane l).configured = true ∧
        (t.lane l).lastFire = none ∧ (t.lane l).state = (s.lane l).state ∧
        (t.lane l).slots = (s.lane l).slots ∧ (t.lane l).phase = (s.lane l).phase ∧
        (t.lane l).phaseLength = (s.lane l).phaseLength ∧ (t.lane l).queue = (s.lane l).queue ∧
        ((t.lane l).full = ((s.lane l).full ||
          (decide (g.fullDelay = 0) && s.accepted (.fullSensor l)))) ∧
        ((t.lane l).jam = ((s.lane l).jam && decide (g.jamTime ≠ 0))) ∧
        (∀ m, m ≠ l → t.lane m = s.lane m) ∧
        t.link = (s.taken.answered f .ok (byteOf l.val :: g.bytes)).link ∧
        { t with lanes := s.lanes, link := s.link, events := s.events } = s) ∧
    (((s.lane l).state ≠ .disabled ∧ (s.lane l).state ≠ .fenced ∨ s.belt.state ≠ .stopped) →
      exec .laneConfig s = .next (s.taken.answered f .badState []))

/-- LANE_STATE by its request. ENABLE (R115): the three checks in order from DISABLED, FENCED or DRAINING,
refused with the code of the first that fails; whether the check names the lane is a free value (log 14).
OK in ENABLED; refused in CLOSING. DRAIN (R116): from ENABLED the lane is DRAINING, or DISABLED at once
with DRAINED when its queue is empty and its diverter is out of EXTEND; OK in DRAINING; refused elsewhere.
DISABLE (R117, R118): an open lane withdraws every RESERVED entry, whose item runs out with WITHDRAWN
(R63), and its extension is cut short; it is CLOSING while a DIVERTING entry is left and DISABLED
otherwise. FENCED becomes DISABLED; DISABLED and CLOSING stay. Every reply carries the lane, its state
after it, the closing target and the depth. -/
def Obligations.LaneStateRequests : Prop :=
  (∀ (s : State) (f : Frame) (l : LaneId), s.Ready f → f.kind = 0x39 →
     f.payload = [byteOf l.val, 0] →
     let u := s.lane l
     let firePasses := s.line.decision < u.geometry.fireDistance
     let passes := u.configured = true ∧ firePasses ∧
       u.geometry.fireDistance + u.geometry.confirmClose < s.line.runout
     ((u.state = .disabled ∨ u.state = .fenced ∨ u.state = .draining) → passes →
       exec .laneStateEnable s = .next ((s.taken.withLane l { u with state := .enabled }).answered
         f .ok [byteOf l.val, 0, 0xFF, byteOf u.queue.length])) ∧
     ((u.state = .disabled ∨ u.state = .fenced ∨ u.state = .draining) → ¬ passes →
       ∃ code lane : Byte, (lane = byteOf l.val ∨ lane = 0xFF) ∧
         (u.configured = false → code = 5) ∧
         (u.configured = true → ¬ firePasses → code = 1) ∧
         (u.configured = true → firePasses → code = 2) ∧
         exec .laneStateEnable s = .next (s.taken.answered f .badState
           [byteOf l.val, u.state.code, 0xFF, byteOf u.queue.length, code, lane, 0xFF])) ∧
     (u.state = .enabled → exec .laneStateEnable s =
       .next (s.taken.answered f .ok [byteOf l.val, 0, 0xFF, byteOf u.queue.length])) ∧
     ∀ target, u.state = .closing target → exec .laneStateEnable s = .next (s.taken.answered f
       .badState [byteOf l.val, 2, target.code, byteOf u.queue.length])) ∧
  (∀ (s : State) (f : Frame) (l : LaneId), s.Ready f → f.kind = 0x39 →
     f.payload = [byteOf l.val, 1] →
     let u := s.lane l
     (u.state = .enabled → u.queue = [] → u.phase ≠ .extend → exec .laneStateDrain s =
       .next ((handEvent (.lane l .drained) s.position.count
         (s.taken.withLane l { u with state := .disabled })).answered f .ok
           [byteOf l.val, 3, 0xFF, 0])) ∧
     (u.state = .enabled → (u.queue ≠ [] ∨ u.phase = .extend) → exec .laneStateDrain s =
       .next ((s.taken.withLane l { u with state := .draining }).answered f .ok
         [byteOf l.val, 1, 0xFF, byteOf u.queue.length])) ∧
     (u.state = .draining → exec .laneStateDrain s =
       .next (s.taken.answered f .ok [byteOf l.val, 1, 0xFF, byteOf u.queue.length])) ∧
     ((u.state ≠ .enabled ∧ u.state ≠ .draining) → exec .laneStateDrain s =
       .next (s.taken.answered f .badState
         [byteOf l.val, u.state.code, u.state.targetByte, byteOf u.queue.length]))) ∧
  ∀ (s : State) (f : Frame) (l : LaneId), s.Ready f → f.kind = 0x39 →
    f.payload = [byteOf l.val, 2] →
    let u := s.lane l
    let left := u.queue.filter (·.diverting)
    ((u.state = .enabled ∨ u.state = .draining) → s.WithdrawnAhead l →
      exec .laneStateDisable s = .next (((s.taken.withList (s.withdrawnList l)).withLane l
        { u.cutShort with
          queue := left
          state := if left = [] then .disabled else .closing .disabled }).answered f .ok
            (if left = [] then [byteOf l.val, 3, 0xFF, 0]
            else [byteOf l.val, 2, 3, byteOf left.length]))) ∧
    (u.state = .fenced → exec .laneStateDisable s = .next ((s.taken.withLane l
        { u with state := .disabled }).answered f .ok
          [byteOf l.val, 3, 0xFF, byteOf u.queue.length])) ∧
    ((u.state = .disabled ∨ ∃ target, u.state = .closing target) →
      exec .laneStateDisable s = .next (s.taken.answered f .ok
        [byteOf l.val, u.state.code, u.state.targetByte, byteOf u.queue.length]))

/-- The exit test and the fence action. A DRAINING lane with its queue empty and its diverter out of EXTEND
becomes DISABLED with DRAINED, a CLOSING lane with its queue empty becomes its target with no event, and
any other lane is left as it is (R116, R118). The fence action on an open lane withdraws its RESERVED
entries and cuts its extension short, and the lane is CLOSING toward FENCED while a DIVERTING entry is left
and FENCED otherwise; a CLOSING lane's target becomes FENCED, a DISABLED lane is FENCED, and a FENCED one
stays (R63, R117, R119). -/
def Obligations.LanesCloseAndExit : Prop :=
  (∀ (s : State) (l : LaneId),
    let u := s.lane l
    (u.state = .draining → u.queue = [] → u.phase ≠ .extend → testExit l s =
      handEvent (.lane l .drained) s.position.count (s.withLane l { u with state := .disabled })) ∧
    (∀ target : ClosingTarget, u.state = .closing target → u.queue = [] → testExit l s =
      s.withLane l { u with state := match target with
        | .disabled => .disabled
        | .fenced => .fenced }) ∧
    ((u.state ≠ .draining ∨ u.queue ≠ [] ∨ u.phase = .extend) →
      ((∀ target : ClosingTarget, u.state ≠ .closing target) ∨ u.queue ≠ []) →
      testExit l s = s)) ∧
  ∀ (s : State) (l : LaneId),
    let u := s.lane l
    let left := u.queue.filter (·.diverting)
    ((u.state = .enabled ∨ u.state = .draining) → s.WithdrawnAhead l → fenceLane l s =
      (s.withList (s.withdrawnList l)).withLane l { u.cutShort with
        queue := left, state := if left = [] then .fenced else .closing .fenced }) ∧
    (∀ target : ClosingTarget, u.state = .closing target →
      fenceLane l s = s.withLane l { u with state := .closing .fenced }) ∧
    (u.state = .disabled → fenceLane l s = s.withLane l { u with state := .fenced }) ∧
    (u.state = .fenced → fenceLane l s = s)

/-- Every step keeps each lane's queue and diverter fitting its state (R112, R117, R118, R121). -/
def Obligations.LaneStatesStaySettled : Prop :=
  ∀ s t : State, s.LanesSettled → step s = .next t → t.LanesSettled

/-! ## Faults -/

/-- The output pins. Running, the belt reference pin carries the reference speed, the brake is on in BRAKE
alone (R15), the infeed runs in FEEDING alone (R27), a lane's extend and retract outputs are on in the
diverter's phases of those names (R123, R125, R126), and ATN stands at the polarity's level for whether
attention is asserted (R170): it is while an unmasked source is latched or an event entry pending (R169).
While reset is held the reference is 0, the brake is on, every other output is off and ATN is high
(R191). -/
def Obligations.OutputPins : Prop :=
  (∀ s : State, s.resetHold = none →
    s.beltReferencePin = s.belt.reference ∧
    (s.brakePin = true ↔ s.belt.state = .brake) ∧
    (s.infeedRunPin = true ↔ s.infeed.state = .feeding) ∧
    (∀ l : LaneId, (s.extendPin l = true ↔ (s.lane l).phase = .extend) ∧
      (s.retractPin l = true ↔ (s.lane l).phase = .retract)) ∧
    s.atnPin = (if s.events.activeHigh then s.attention else !s.attention)) ∧
  (∀ s : State, s.attention = true ↔
    (∃ f : FaultSource, (s.source f).latched = true ∧ (s.source f).masked = false) ∨
    ∃ i : Fin 84, s.events.entries[i].isSome = true) ∧
  ∀ s : State, s.resetHold.isSome = true →
    s.beltReferencePin = 0 ∧ s.brakePin = true ∧ s.infeedRunPin = false ∧ s.atnPin = true ∧
    ∀ l : LaneId, s.extendPin l = false ∧ s.retractPin l = false

/-- An occurrence of a source that is not latched (R145, R147 to R152, R159): it latches, counts, and holds
the named lane; masked, nothing else follows; unmasked, the first fault is captured if absent, a FAULT
report takes its place in the queue, and the class acts: RECORD on nothing, HALT on the belt, STOP on the
belt, the lanes and tracking, RECOVER by its own recovery. The infeed chooses its state afresh. That the
purge of an empty tracking list leaves the lanes' queues is the model's reading (log 33), and so is that the
FATE report of a purged item that was in RUNOUT carries its route index, as R63 and the table of R71 say
against another sentence of R71 (log 32). -/
def Obligations.FaultLatchesAndActs : Prop :=
  ∀ (s : State) (f : FaultSource) (lane : Option LaneId), (s.source f).latched = false →
    (lane.isSome = true → f.laneScoped = true) →
    let t := faultOccur f lane s
    let count := min 255 ((s.source f).count + 1)
    let report : FaultReport :=
      { source := f, count := count, cls := (s.source f).cls
        first := decide (s.faults.first.getD f = f), lane := lane }
    (t.source f = { s.source f with
        latched := true, count := count, latchLane := lane
        laneSet := (lane.map fun l => 1#16 <<< l.val).getD (s.source f).laneSet } ∧
      (∀ g, g ≠ f → t.source g = s.source g) ∧ t.infeed.state = t.infeedChoice) ∧
    ((s.source f).masked = true → t.faults.first = s.faults.first ∧
      { t with faults := s.faults, infeed := s.infeed, events := s.events } = s) ∧
    ((s.source f).masked = false →
      t.faults.first = some (s.faults.first.getD f) ∧
      ((∀ x ∈ s.link.faultReports, x.source ≠ f) →
        t.link.faultReports = s.link.faultReports ++ [report]) ∧
      (∀ before old after, s.link.faultReports = before ++ old :: after → old.source = f →
        (∀ x ∈ before, x.source ≠ f) → t.link.faultReports = before ++ report :: after) ∧
      ((s.source f).cls = .record → { t with
        faults := s.faults, infeed := s.infeed, events := s.events
        link := { t.link with faultReports := s.link.faultReports } } = s) ∧
      ((s.source f).cls = .halt →
        t.belt = (if s.belt.state.stopping then s.belt
          else { s.belt with state := .decel, target := 0, standstillTimer := 0 }) ∧
        { t with
          faults := s.faults, infeed := s.infeed, events := s.events, belt := s.belt
          link := { t.link with faultReports := s.link.faultReports } } = s) ∧
      ((s.source f).cls = .stop →
        t.belt = (if s.belt.state = .brake then s.belt
          else { s.belt with state := .brake, target := 0, reference := 0, standstillTimer := 0 }) ∧
        t.tracking = s.purgedTracking ∧
        { t.link with faultReports := s.link.faultReports } = s.purgedLink ∧
        (∀ l : LaneId,
          (t.lane l).queue = (if s.tracking.list = [] then (s.lane l).queue else []) ∧
          (t.lane l).phase ≠ .extend ∧
          (t.lane l).geometry = (s.lane l).geometry ∧ (t.lane l).slots = (s.lane l).slots) ∧
        { t with
          faults := s.faults, infeed := s.infeed, events := s.events, belt := s.belt
          tracking := s.tracking, lanes := s.lanes, link := s.link } = s) ∧
      ((s.source f).cls = .recover →
        (∀ l : LaneId, lane = some l →
          ((t.lane l).state = .fenced ∨ (t.lane l).state = .closing .fenced) ∧
            ∀ m, m ≠ l → t.lane m = s.lane m) ∧
        (f = .poolExhausted → t.infeed.holdPool = true ∧ t.lanes = s.lanes) ∧
        (f = .entryJam → t.infeed.holdJam = true ∧ t.lanes = s.lanes)))

/-- An occurrence of a source that is already latched (R146): it counts; a lane not yet in a lane-scoped
source's lane set joins it, and is fenced where the source is unmasked and of class RECOVER; no report is
made due and the first fault stays. -/
def Obligations.FaultRepeatsAreCounted : Prop :=
  ∀ (s : State) (f : FaultSource) (lane : Option LaneId), (s.source f).latched = true →
    let x := { s.source f with count := min 255 ((s.source f).count + 1) }
    ((lane = none ∨ f.laneScoped = false) → faultOccur f lane s = s.withSource f x) ∧
    ∀ l : LaneId, lane = some l → f.laneScoped = true →
      (x.laneSet.getLsbD l.val = true → faultOccur f lane s = s.withSource f x) ∧
      (x.laneSet.getLsbD l.val = false →
        let y := { x with laneSet := x.laneSet ||| 1#16 <<< l.val }
        ((x.masked = true ∨ x.cls ≠ .recover) → faultOccur f lane s = s.withSource f y) ∧
        (x.masked = false → x.cls = .recover →
          let t := faultOccur f lane s
          t.faults = (s.withSource f y).faults ∧
          t.link.faultReports = s.link.faultReports ∧
          ((t.lane l).state = .fenced ∨ (t.lane l).state = .closing .fenced) ∧
          ∀ m, m ≠ l → t.lane m = s.lane m))

/-- FAULT_CLEAR (R155): named sources whose conditions do not hold are cleared, their recovery holds
removed and the first fault reselected; ESTOP named while its line is asserted is latched and braking
again. ENTRY_JAM named while induction is JAMMED is latched again as one occurrence, and of class RECOVER
holds the infeed again; LANE_JAM named while lanes are jammed is latched again by one occurrence for each,
its lane set those lanes, and of class RECOVER fences each (R144, R150, R155 step 4). FAULT_INJECT (R158): one named source is taken as an occurrence; of any set every named source is
latched after it. Both replies carry the latched set and the first fault after the command. -/
def Obligations.FaultClearAndInject : Prop :=
  (∀ (s : State) (f : Frame) (set : BitVec 16), s.Ready f → f.kind = 0x41 →
    parseFaultClear f.payload = some set →
    ((∀ src : FaultSource, set.getLsbD src.idx.val = true → s.conditionHolds src = false) →
      ∃ (t : State) (bytes : List Byte), exec .faultClear s = .next (t.answered f .ok bytes) ∧
        t.FaultSummary bytes ∧
        (∀ src : FaultSource, t.source src = if set.getLsbD src.idx.val then { s.source src with
          latched := false, count := 0, laneSet := 0, latchLane := none } else s.source src) ∧
        t.faults.first = (if s.faults.first.any fun src => set.getLsbD src.idx.val then
          t.lowestActing else s.faults.first) ∧
        t.infeed = { s.infeed with
          state := t.infeedChoice
          holdPool := s.infeed.holdPool && !set.getLsbD 7
          holdJam := s.infeed.holdJam && !set.getLsbD 8 } ∧
        { t with faults := s.faults, infeed := s.infeed, events := s.events } = s.taken) ∧
    (set.getLsbD 6 = true → s.accepted .emergencyStop = true →
      (s.source .estop).masked = false → (s.source .estop).cls = .stop →
      ∃ t, exec .faultClear s = .next t ∧ (t.source .estop).latched = true ∧
        t.belt.state = .brake ∧ t.tracking = s.purgedTracking) ∧
    ∃ (t : State) (bytes : List Byte), exec .faultClear s = .next (t.answered f .ok bytes) ∧
      t.FaultSummary bytes ∧
      (set.getLsbD 8 = true → s.induction.measurement = .jammed →
        t.source .entryJam = { s.source .entryJam with
          latched := true, count := 1, laneSet := 0, latchLane := none } ∧
        ((s.source .entryJam).masked = false → (s.source .entryJam).cls = .recover →
          t.infeed.holdJam = true)) ∧
      (set.getLsbD 13 = true → (∃ l : LaneId, (s.lane l).jam = true) →
        (t.source .laneJam).latched = true ∧
        (t.source .laneJam).count = (List.finRange 16).countP (fun l : LaneId => (s.lane l).jam) ∧
        (∀ l : LaneId, (t.source .laneJam).laneSet.getLsbD l.val = (s.lane l).jam) ∧
        ((s.source .laneJam).masked = false → (s.source .laneJam).cls = .recover →
          ∀ l : LaneId, (s.lane l).jam = true →
            (t.lane l).state = .fenced ∨ (t.lane l).state = .closing .fenced))) ∧
  ∀ (s : State) (f : Frame) (lane : Option LaneId), s.Ready f → f.kind = 0x44 →
    (∀ src : FaultSource, parseFaultInject f.payload = some (1#16 <<< src.idx.val, lane) →
      ∃ bytes, exec .faultInject s = .next ((faultOccur src
          (if src.laneScoped then lane else none) s.taken).answered f .ok bytes) ∧
        (faultOccur src (if src.laneScoped then lane else none) s.taken).FaultSummary bytes) ∧
    ∀ set : BitVec 16, parseFaultInject f.payload = some (set, lane) →
      ∃ (t : State) (bytes : List Byte), exec .faultInject s = .next (t.answered f .ok bytes) ∧
        t.FaultSummary bytes ∧
        ∀ src : FaultSource, (t.source src).latched =
          ((s.source src).latched || set.getLsbD src.idx.val)

/-- FAULT_MASK (R156): a set-list is masked and the first fault reselected after all of them; a latched
source of any class that is unmasked becomes the first fault if there is none, the action of its class is
taken, and its FAULT report is made due; that the reply's masks are one set of the masked sources is the
model's reading (log 36). FAULT_ACTION (R157): the class is stored; not raised, nothing is taken; raised
while latched and unmasked, to any class, the new action is taken and a report is made due (R149 to R152).
That the reply's last byte is yes exactly where the class was raised is the model's reading (log 18). In a
STOP action, the purge of an empty list is log 33 and the route index in a purged item's report log 32. -/
def Obligations.FaultMaskAndAction : Prop :=
  (∀ (s : State) (f : Frame) (set clear : BitVec 16), s.Ready f → f.kind = 0x42 →
    parseFaultMask f.payload = some (set, clear) →
    (clear = 0 → ∃ (t : State) (masks : BitVec 16) (bytes : List Byte),
      exec .faultMask s = .next (t.answered f .ok (leBytes 2 masks.toNat ++ bytes)) ∧
      IsSourceSet masks (fun src => (t.source src).masked) ∧ t.FaultSummary bytes ∧
      (∀ src : FaultSource, t.source src = { s.source src with
        masked := (s.source src).masked || set.getLsbD src.idx.val }) ∧
      t.faults.first = (if s.faults.first.any fun src => set.getLsbD src.idx.val then
        t.lowestActing else s.faults.first) ∧
      { t with faults := s.faults, infeed := s.infeed, events := s.events } = s.taken) ∧
    ∀ src : FaultSource, set = 0 → clear = 1#16 <<< src.idx.val →
      ((s.source src).masked = false ∨ (s.source src).latched = false →
        ∃ bytes, exec .faultMask s = .next ((chooseInfeed (s.taken.withSource src
          { s.source src with masked := false })).answered f .ok bytes)) ∧
      ((s.source src).masked = true → (s.source src).latched = true →
        ∃ (t : State) (masks : BitVec 16) (bytes : List Byte),
          exec .faultMask s = .next (t.answered f .ok (leBytes 2 masks.toNat ++ bytes)) ∧
          IsSourceSet masks (fun src => (t.source src).masked) ∧ t.FaultSummary bytes ∧
          s.taken.ActionTaken t src ∧
          t.source src = { s.source src with masked := false } ∧
          (∀ g, g ≠ src → t.source g = s.source g) ∧
          t.faults.first = some (s.faults.first.getD src) ∧
          ∃ r ∈ t.link.faultReports, r.source = src ∧ r.count = (s.source src).count ∧
            r.cls = (s.source src).cls ∧ r.first = decide (s.faults.first.getD src = src))) ∧
  ∀ (s : State) (f : Frame) (src : FaultSource) (cls : ActionClass), s.Ready f → f.kind = 0x43 →
    parseFaultAction f.payload = some (src, cls) →
    let next := s.taken.withSource src { s.source src with cls := cls }
    (((s.source src).latched = false ∨ (s.source src).masked = true ∨
        cls.rank ≤ (s.source src).cls.rank) →
      exec .faultAction s = .next ((chooseInfeed next).answered f .ok
        [byteOf src.idx.val, (s.source src).cls.code, cls.code, 0])) ∧
    ((s.source src).latched = true → (s.source src).masked = false →
      (s.source src).cls.rank < cls.rank →
      ∃ t : State, exec .faultAction s = .next (t.answered f .ok
          [byteOf src.idx.val, (s.source src).cls.code, cls.code, 1]) ∧
        s.taken.ActionTaken t src ∧ t.faults = next.faults ∧
        ∃ r ∈ t.link.faultReports, r.source = src ∧ r.cls = cls ∧
          r.count = (s.source src).count ∧ r.first = decide (s.faults.first = some src))

/-- Every step keeps the emergency stop's hold: ESTOP stays of class STOP and unmasked, it is latched while
its line is asserted, and while an unmasked source of class HALT or STOP is latched the belt is in DECEL,
BRAKE or STOPPED (R24, R144, R156, R157). -/
def Obligations.EmergencyStopHoldsTheBelt : Prop :=
  ∀ s t : State, s.EstopFixed → s.EstopHeld → s.BeltHeld → step s = .next t →
    t.EstopFixed ∧ t.EstopHeld ∧ t.BeltHeld

/-- Every step keeps the first fault present exactly while an unmasked source is latched, naming one
(R148). -/
def Obligations.FirstFaultStaysNamed : Prop :=
  ∀ s t : State, s.FirstFaultNamed → step s = .next t → t.FirstFaultNamed

/-! ## Events -/

/-- An occurrence of a pair (R161) is dropped where the pair is disabled, and otherwise makes or joins its
entry. EVENT_ENABLE (R162) sets the marks of the named pairs and removes the entries of those it
disables; an empty REPORT_SET reads, another sets its three fields (R167). -/
def Obligations.EventMarksAndEntries : Prop :=
  (∀ (s : State) (p : EventPair) (pos : Word),
    (s.events.enabled[p.idx] = false → handEvent p pos s = s) ∧
    (s.events.enabled[p.idx] = true →
      (s.events.entries[p.idx] = none → handEvent p pos s = { s with events := { s.events with
        entries := s.events.entries.set p.idx (some { count := 1, last := pos }) } }) ∧
      ∀ e, s.events.entries[p.idx] = some e → handEvent p pos s = { s with events := { s.events with
        entries := s.events.entries.set p.idx
          (some { count := min 255 (e.count + 1), last := pos }) } })) ∧
  (∀ (s : State) (f : Frame) (a : EnableArgs), s.Ready f → f.kind = 0x48 →
    parseEventEnable f.payload = some a →
    ∃ (named : EventPair → Bool) (t : State) (matrix : BitVec 88) (removed : Nat),
      (∀ l ty, named (.lane l ty) =
        (!a.line && a.laneSet.getLsbD l.val && a.types.getLsbD ty.code.val)) ∧
      (∀ ty, named (.line ty) = (a.line && a.types.getLsbD ty.code.val)) ∧
      exec .eventEnable s =
        .next (t.answered f .ok (leBytes 11 matrix.toNat ++ [byteOf removed])) ∧
      (∀ p, t.events.enabled[p.idx] = if named p then a.on else s.events.enabled[p.idx]) ∧
      (∀ p, t.events.entries[p.idx] =
        if named p && !a.on then none else s.events.entries[p.idx]) ∧
      (∀ i : Fin 84, matrix.getLsbD i.val = t.events.enabled[i]) ∧
      removed = ((List.finRange 84).countP fun i : Fin 84 =>
        s.events.entries[i].isSome && t.events.entries[i].isNone) ∧
      { t with events := { t.events with
          enabled := s.events.enabled, entries := s.events.entries } } = s.taken) ∧
  ∀ (s : State) (f : Frame), s.Ready f → f.kind = 0x4A →
    ∃ pending : Nat,
      pending = ((List.finRange 84).countP fun i : Fin 84 => s.events.entries[i].isSome) ∧
      (f.payload = [] → exec .reportSet s = .next (s.taken.answered f .ok
        [byteOf s.events.spacing, flagByte s.events.hold, flagByte s.events.activeHigh,
         byteOf s.events.cursor.val, byteOf pending])) ∧
      ∀ (spacing : Byte) (hold high : Bool),
        f.payload = [spacing, flagByte hold, flagByte high] →
        exec .reportSet s = .next ({ s.taken with events := { s.events with
          spacing := spacing.toNat, hold := hold, activeHigh := high } }.answered f .ok
            [spacing, flagByte hold, flagByte high, byteOf s.events.cursor.val, byteOf pending])

/-- EVENT_READ (R166): up to the maximum of the pending entries, in scan order from after the cursor, leave
and stand in the reply; the cursor is at the last one taken, or where it was when none is pending;
nothing else changes. -/
def Obligations.EventReadTakesInScanOrder : Prop :=
  ∀ (s : State) (f : Frame) (n : Nat), s.Ready f → f.kind = 0x49 →
    parseEventRead f.payload = some n →
    ∃ (taken : List (Fin 84)) (t : State) (left : Nat),
      taken.Pairwise (fun i j => s.events.scanDistance i < s.events.scanDistance j) ∧
      (∀ i ∈ taken, s.events.entries[i].isSome = true) ∧
      (∀ i : Fin 84, s.events.entries[i].isSome = true → i ∉ taken →
        taken.length = n ∧ ∀ j ∈ taken, s.events.scanDistance j < s.events.scanDistance i) ∧
      taken.length ≤ n ∧
      (∀ i : Fin 84, t.events.entries[i] = if i ∈ taken then none else s.events.entries[i]) ∧
      t.events.cursor = taken.getLast?.getD s.events.cursor ∧
      left = ((List.finRange 84).countP fun i : Fin 84 => t.events.entries[i].isSome) ∧
      exec .eventRead s = .next (t.answered f .ok ([byteOf taken.length, byteOf left] ++
        taken.flatMap fun i => match s.events.entries[i] with
          | some e => [pairSource i, pairType i, byteOf e.count] ++ leBytes 4 e.last.toNat
          | none => [])) ∧
      { t with events := { t.events with
          entries := s.events.entries, cursor := s.events.cursor } } = s.taken

/-- Every step keeps each pending entry to an enabled pair and a count of 1 to 255 (R161). -/
def Obligations.EventEntriesStayEnabled : Prop :=
  ∀ s t : State, s.EntriesEnabled → step s = .next t → t.EntriesEnabled

/-! ## The command link -/

/-- STATUS (R184) answers the belt, the infeed, the pool, the plan, the fences and the faults, and clears
the reset-seen flag it carried. LINE_READ, LANE_READ and FAULT_READ change nothing and answer what they
name, in the order of the fields of R190 (R48, R134, R154). That LANE_READ carries its two accepted
levels as a byte each is the model's reading (log 37), like the order where R190 spells out no reply byte
by byte (log 28). -/
def Obligations.ReadsAnswerTheState : Prop :=
  ∀ (s : State) (f : Frame), s.Ready f →
    (f.kind = 0x02 → f.payload = [] → ∃ latched masked : BitVec 16,
      IsSourceSet latched (fun src => (s.source src).latched) ∧
      IsSourceSet masked (fun src => (s.source src).masked) ∧
      exec .status s = .next ({ s with link := { s.taken.link with resetSeen := false } }.answered
        f .ok ([s.belt.state.code] ++ leBytes 4 s.position.count.toNat ++
          leBytes 4 (s.belt.reference / 1000) ++ signedBytes s.position.measuredSpeed ++
          [s.infeed.state.code, flagByte s.infeed.enable] ++ poolBytes s.tracking ++
          [byteOf s.routes.plan.val, byteOf s.tracking.fences.length] ++
          leBytes 2 latched.toNat ++ leBytes 2 masked.toNat ++
          [optFinByte (s.faults.first.map FaultSource.idx), flagByte s.link.resetSeen]))) ∧
    (f.kind = 0x09 → f.payload = [] → ∃ levels : BitVec 40,
      (∀ n : Fin 40, levels.getLsbD n.val =
        if h : n.val < 34 then s.position.sensors[n.val].accepted else false) ∧
      exec .lineRead s = .next (s.taken.answered f .ok (s.line.bytes ++ leBytes 2 100 ++
        leBytes 2 s.position.reverseRun ++ leBytes 5 levels.toNat ++
        [s.induction.measurement.code] ++
        optWordBytes (match s.induction.measurement with
          | .measuring lead => some lead
          | _ => none) ++
        optWordBytes s.induction.prevTrail ++ leBytes 2 s.induction.nextItem))) ∧
    (∀ l : LaneId, f.kind = 0x3A → f.payload = [byteOf l.val] →
      let u := s.lane l
      exec .laneRead s = .next (s.taken.answered f .ok
        ([u.state.code, u.state.targetByte, flagByte u.configured] ++ u.geometry.bytes ++
          [byteOf u.queue.length] ++
          (u.queue.flatMap fun e => leBytes 2 e.item ++
            ([if e.diverting then 2 else 1] : List Byte) ++
            leBytes 4 e.firePos.toNat ++ leBytes 4 e.closePos.toNat) ++
          optWordBytes u.lastFire ++
          [u.phase.code, flagByte u.full, flagByte u.jam, flagByte (s.accepted (.confirmEye l)),
           flagByte (s.accepted (.fullSensor l))] ++
          (u.slots.toList.map optFinByte ++ [u.groupSet])))) ∧
    (f.kind = 0x40 → f.payload = [] → exec .faultRead s = .next (s.taken.answered f .ok
      ((FaultSource.all.flatMap fun src => [flagByte (s.source src).latched,
          byteOf (s.source src).count, flagByte (s.source src).masked, (s.source src).cls.code,
          flagByte src.isLevel] ++
          if src.laneScoped then leBytes 2 (s.source src).laneSet.toNat else []) ++
        [flagByte (s.accepted .emergencyStop),
         flagByte (decide (s.induction.measurement = .jammed)),
         flagByte (decide (∃ l : LaneId, (s.lane l).jam = true)),
         optFinByte (s.faults.first.map FaultSource.idx),
         if s.infeed.holdPool then 0x80 else 0, if s.infeed.holdJam then 1 else 0])))

/-- A command frame whose payload has a length its layout does not allow, or of that length holds a value
that the command's rule refuses with BAD_ARG, is answered BAD_ARG; one of a kind below 0x70 that names no
command is answered BAD_KIND; nothing else changes (R18, R19, R22, R23, R33, R46, R56 to R59, R72, R80, R86,
R87, R89, R91, R97, R98, R114, R115, R156, R157, R162, R166, R167, R177, R178, R185, R188, R189). The table
splits SOFT_RESET and LANE_STATE into three rows each; that any of the three may take such a frame, and
answers it in the same way, is the model's choice (log 5). -/
def Obligations.BadFramesChangeNothing : Prop :=
  ∀ (s : State) (f : Frame), s.Ready f →
    (∀ (c : Instr) (lengths : List Nat), (c, f.kind, lengths) ∈ commandLayouts →
      (f.payload.length ∉ lengths → exec c s = .next (s.taken.answered f .badArg [])) ∧
      (f.payload.length ∈ lengths → fieldsRefused f.kind f.payload = true →
        exec c s = .next (s.taken.answered f .badArg []))) ∧
    (f.kind.toNat < 0x70 → (∀ row ∈ commandLayouts, row.2.1 ≠ f.kind) →
      exec .badKind s = .next (s.taken.answered f .badKind []))

/-- The bytes of any command frame, received whole by a HUNTING receiver with room in the command queue,
put that frame with its kind, tag and payload at the tail of the queue and leave the receiver HUNTING
(R173 to R176). -/
def Obligations.ReceiverTakesEveryFrame : Prop :=
  ∀ (s : State) (f : Frame), s.resetHold = none → s.link.receiver = .hunting →
    s.link.commands.length < 4 → f.kind.toNat < 0x70 → f.payload.length ≤ 240 →
    Sys2Proof.core.run f.wire.length
        { s with pending := f.wire.map fun b => .receiveByte b true } =
      .next { s with
        pending := []
        link := { s.link with receiver := .hunting, commands := s.link.commands ++ [f] } }

/-- RECEIVE_BYTE and BYTE_GAP_TIMEOUT by the receiver's table (R174 to R176): what HUNTING drops, what
discards a frame with one LINK_FRAME occurrence, and what a good frame that finds the command queue full
meets: a BUSY reply while fewer than 12 places are held, and one LINK_OVERRUN occurrence. -/
def Obligations.ReceiverByRule : Prop :=
  ∀ s : State, s.resetHold = none →
    let inState (r : Receiver) : State := { s with link := { s.link with receiver := r } }
    (s.link.receiver = .hunting →
      exec (.receiveByte 0xA7 true) s = .next (inState (.assembling [] 0)) ∧
      ∀ (b : Byte) (stop : Bool), b ≠ 0xA7 ∨ stop = false →
        exec (.receiveByte b stop) s = .next s) ∧
    (∀ (got : List Byte) (gap : Nat), s.link.receiver = .assembling got gap →
      (gap < 11 →
        (∀ b : Byte, exec (.receiveByte b false) s =
          .next (faultOccur .linkFrame none (inState .hunting))) ∧
        (∀ b : Byte, got = [] → b.toNat < 2 ∨ 242 < b.toNat →
          exec (.receiveByte b true) s =
            .next (faultOccur .linkFrame none (inState .hunting))) ∧
        (∀ (n : Byte) (tail : List Byte) (b : Byte), got = n :: tail → 2 ≤ n.toNat →
          got.length = n.toNat + 1 →
          (b ≠ crc8 got → exec (.receiveByte b true) s =
            .next (faultOccur .linkFrame none (inState .hunting))) ∧
          (∀ (kind tag : Byte) (payload : List Byte), b = crc8 got →
            got = n :: kind :: tag :: payload →
            (0x70 ≤ kind.toNat → exec (.receiveByte b true) s =
              .next (faultOccur .linkFrame none (inState .hunting))) ∧
            (kind.toNat < 0x70 → s.link.commands.length = 4 →
              exec (.receiveByte b true) s = .next (faultOccur .linkOverrun none
                (if s.link.replies.length + s.tracking.fences.length < 12 then
                  (inState .hunting).answered { kind, tag, payload } .busy []
                else inState .hunting))))) ∧
        exec .byteGapTimeout s = .next s) ∧
      (11 ≤ gap → exec .byteGapTimeout s =
        .next (faultOccur .linkFrame none (inState .hunting)))) ∧
    (s.link.receiver = .hunting → exec .byteGapTimeout s = .next s)

/-- ARBITER_TAKE with the transmitter idle (R181, R164): replies first, then item reports, then fault
reports, then the pending entry next in scan order where hold is off and the spacing is satisfied.
FRAME_SENT (R182): the transmitter is idle, a FATE report's record is free and the infeed chooses, and
after an EVENT report the spacing timer is 0. SPACING_TIMER_EXPIRY writes nothing (the model's choice,
log 30). -/
def Obligations.ArbiterAndFrameSent : Prop :=
  ∀ s : State, s.resetHold = none →
    (s.link.sending = none →
      (∀ r rest, s.link.replies = r :: rest → exec .arbiterTake s = .next { s with
        link := { s.link with replies := rest, sending := some (.reply r) } }) ∧
      (∀ r rest, s.link.replies = [] → s.link.itemReports = r :: rest →
        exec .arbiterTake s = .next { s with
          link := { s.link with itemReports := rest, sending := some (.item r) } }) ∧
      (∀ r rest, s.link.replies = [] → s.link.itemReports = [] →
        s.link.faultReports = r :: rest → exec .arbiterTake s = .next { s with
          link := { s.link with faultReports := rest, sending := some (.fault r) } }) ∧
      (s.link.replies = [] → s.link.itemReports = [] → s.link.faultReports = [] →
        (∀ (i : Fin 84) (e : EventEntry), s.events.hold = false →
          s.events.spacing ≤ s.events.spacingTimer → s.events.entries[i] = some e →
          (∀ j : Fin 84, s.events.scanDistance j < s.events.scanDistance i →
            s.events.entries[j] = none) →
          exec .arbiterTake s = .next { s with
            events := { s.events with entries := s.events.entries.set i none, cursor := i }
            link := { s.link with
              sending := some (.event { pair := i, count := e.count, last := e.last }) } }) ∧
        ((s.events.hold = true ∨ s.events.spacingTimer < s.events.spacing ∨
            ∀ i : Fin 84, s.events.entries[i] = none) → exec .arbiterTake s = .next s))) ∧
    (s.link.sending.isSome = true → exec .arbiterTake s = .next s) ∧
    (∀ r : FateReport, s.link.sending = some (.item (.fate r)) →
      exec .frameSent s = .next (chooseInfeed { s with
        link := { s.link with sending := none }
        tracking := { s.tracking with
          fatePending := s.tracking.fatePending.filter fun x => x.item ≠ r.item } })) ∧
    (∀ r : EventReport, s.link.sending = some (.event r) → exec .frameSent s = .next { s with
      link := { s.link with sending := none }, events := { s.events with spacingTimer := 0 } }) ∧
    (∀ x : OutFrame, s.link.sending = some x → (∀ r, x ≠ .item (.fate r)) → (∀ r, x ≠ .event r) →
      exec .frameSent s = .next { s with link := { s.link with sending := none } }) ∧
    exec .spacingTimerExpiry s = .next s

/-- Every step keeps at most 4 commands and 4 fences, at most 12 places held, at most 64 records in use,
and at most one waiting FAULT report of each source (R43, R136, R176, R179, R180). -/
def Obligations.QueuesStayBounded : Prop :=
  ∀ s t : State, s.QueuesBounded → s.PoolBounded → s.ReportsApart → step s = .next t →
    t.QueuesBounded ∧ t.PoolBounded ∧ t.ReportsApart

/-- The payload layouts of R189 drop no bit: the bytes of any line configuration, lane geometry, belt
configuration, route entry, key and speed in range are read back as they were; a route entry's masked
key bits are read as 0 (R18, R46, R56, R80, R114). -/
def Obligations.PayloadsReadBack : Prop :=
  (∀ c : LineConfig, c.InRange → parseLineConfig c.bytes = some c) ∧
  (∀ (l : LaneId) (g : Geometry), g.InRange →
    parseLaneConfig (byteOf l.val :: g.bytes) = some (l, g)) ∧
  (∀ c : BeltSettings, 1000 ≤ c.accelRate → c.accelRate ≤ 2000000 → 1000 ≤ c.decelRate →
    c.decelRate ≤ 2000000 → c.deviationLimit ≤ 65535 →
    (c.stallTime = 0 ∨ (10 ≤ c.stallTime ∧ c.stallTime ≤ 2000)) →
    parseBeltConfig (leBytes 4 c.accelRate ++ leBytes 4 c.decelRate ++
      leBytes 2 c.deviationLimit ++ leBytes 2 c.stallTime) = some c) ∧
  (∀ (key mask : Key) (plan : Fin 16) (allPlans : Bool) (target : Target) (locked : Bool),
    parseRouteWriteNext (routePayload key mask plan allPlans target locked) = some
      { valid := true, key := key &&& ~~~mask, mask := mask, plan := plan, allPlans := allPlans
        target := target, locked := locked, hits := 0 }) ∧
  (∀ (item : Nat) (key : Option Key), 1 ≤ item → item ≤ 65535 →
    parseAssign (leBytes 2 item ++ keyBytes key) = some (item, key)) ∧
  ∀ speed : Nat, 1 ≤ speed → speed ≤ 200000 → parseSpeed (leBytes 4 speed) = some speed

/-! ## The state after reset -/

/-- The state after reset is what RESET_END leaves after a power-on with the RATE strap and every input
pin low (the levels are the model's choice, log 9), and every invariant above holds of it. -/
def Obligations.InvariantsHoldAtReset : Prop :=
  (∀ s : State, s.pending = [] → s.freeCount = 0 → s.resetHold = some .powerOn →
     s.position.encoder = { a := false, b := false } →
     (∀ i : Fin 34, s.position.sensors[i].raw = false) →
     exec (.resetEnd false) s = .next State.reset) ∧
  State.reset.RoutesApart ∧ State.reset.EstopFixed ∧ State.reset.EstopHeld ∧
    State.reset.BeltHeld ∧ State.reset.FirstFaultNamed ∧ State.reset.EntriesEnabled ∧
    State.reset.QueuesBounded ∧ State.reset.PoolBounded ∧ State.reset.InfeedChosen ∧
    State.reset.LanesSettled ∧ State.reset.ReportsApart
end

