-- ==== Sys2Proof/Laws/State.lean ====
section
/-! SUPPORT. Reading a block after writing one: one lemma per block per write, each true by unfolding
the record update once. -/

namespace Sys2Proof.Machine

@[simp] theorem setPending_pending (s : State) (v : List Instr) : (s.setPending v).pending = v := rfl
@[simp] theorem setPending_freeCount (s : State) (v : List Instr) : (s.setPending v).freeCount = s.freeCount := rfl
@[simp] theorem setPending_resetHold (s : State) (v : List Instr) : (s.setPending v).resetHold = s.resetHold := rfl
@[simp] theorem setPending_position (s : State) (v : List Instr) : (s.setPending v).position = s.position := rfl
@[simp] theorem setPending_line (s : State) (v : List Instr) : (s.setPending v).line = s.line := rfl
@[simp] theorem setPending_belt (s : State) (v : List Instr) : (s.setPending v).belt = s.belt := rfl
@[simp] theorem setPending_infeed (s : State) (v : List Instr) : (s.setPending v).infeed = s.infeed := rfl
@[simp] theorem setPending_induction (s : State) (v : List Instr) : (s.setPending v).induction = s.induction := rfl
@[simp] theorem setPending_tracking (s : State) (v : List Instr) : (s.setPending v).tracking = s.tracking := rfl
@[simp] theorem setPending_routes (s : State) (v : List Instr) : (s.setPending v).routes = s.routes := rfl
@[simp] theorem setPending_cursors (s : State) (v : List Instr) : (s.setPending v).cursors = s.cursors := rfl
@[simp] theorem setPending_lanes (s : State) (v : List Instr) : (s.setPending v).lanes = s.lanes := rfl
@[simp] theorem setPending_faults (s : State) (v : List Instr) : (s.setPending v).faults = s.faults := rfl
@[simp] theorem setPending_events (s : State) (v : List Instr) : (s.setPending v).events = s.events := rfl
@[simp] theorem setPending_link (s : State) (v : List Instr) : (s.setPending v).link = s.link := rfl

@[simp] theorem setFreeCount_pending (s : State) (v : Nat) : (s.setFreeCount v).pending = s.pending := rfl
@[simp] theorem setFreeCount_freeCount (s : State) (v : Nat) : (s.setFreeCount v).freeCount = v := rfl
@[simp] theorem setFreeCount_resetHold (s : State) (v : Nat) : (s.setFreeCount v).resetHold = s.resetHold := rfl
@[simp] theorem setFreeCount_position (s : State) (v : Nat) : (s.setFreeCount v).position = s.position := rfl
@[simp] theorem setFreeCount_line (s : State) (v : Nat) : (s.setFreeCount v).line = s.line := rfl
@[simp] theorem setFreeCount_belt (s : State) (v : Nat) : (s.setFreeCount v).belt = s.belt := rfl
@[simp] theorem setFreeCount_infeed (s : State) (v : Nat) : (s.setFreeCount v).infeed = s.infeed := rfl
@[simp] theorem setFreeCount_induction (s : State) (v : Nat) : (s.setFreeCount v).induction = s.induction := rfl
@[simp] theorem setFreeCount_tracking (s : State) (v : Nat) : (s.setFreeCount v).tracking = s.tracking := rfl
@[simp] theorem setFreeCount_routes (s : State) (v : Nat) : (s.setFreeCount v).routes = s.routes := rfl
@[simp] theorem setFreeCount_cursors (s : State) (v : Nat) : (s.setFreeCount v).cursors = s.cursors := rfl
@[simp] theorem setFreeCount_lanes (s : State) (v : Nat) : (s.setFreeCount v).lanes = s.lanes := rfl
@[simp] theorem setFreeCount_faults (s : State) (v : Nat) : (s.setFreeCount v).faults = s.faults := rfl
@[simp] theorem setFreeCount_events (s : State) (v : Nat) : (s.setFreeCount v).events = s.events := rfl
@[simp] theorem setFreeCount_link (s : State) (v : Nat) : (s.setFreeCount v).link = s.link := rfl

@[simp] theorem setResetHold_pending (s : State) (v : Option ResetCause) : (s.setResetHold v).pending = s.pending := rfl
@[simp] theorem setResetHold_freeCount (s : State) (v : Option ResetCause) : (s.setResetHold v).freeCount = s.freeCount := rfl
@[simp] theorem setResetHold_resetHold (s : State) (v : Option ResetCause) : (s.setResetHold v).resetHold = v := rfl
@[simp] theorem setResetHold_position (s : State) (v : Option ResetCause) : (s.setResetHold v).position = s.position := rfl
@[simp] theorem setResetHold_line (s : State) (v : Option ResetCause) : (s.setResetHold v).line = s.line := rfl
@[simp] theorem setResetHold_belt (s : State) (v : Option ResetCause) : (s.setResetHold v).belt = s.belt := rfl
@[simp] theorem setResetHold_infeed (s : State) (v : Option ResetCause) : (s.setResetHold v).infeed = s.infeed := rfl
@[simp] theorem setResetHold_induction (s : State) (v : Option ResetCause) : (s.setResetHold v).induction = s.induction := rfl
@[simp] theorem setResetHold_tracking (s : State) (v : Option ResetCause) : (s.setResetHold v).tracking = s.tracking := rfl
@[simp] theorem setResetHold_routes (s : State) (v : Option ResetCause) : (s.setResetHold v).routes = s.routes := rfl
@[simp] theorem setResetHold_cursors (s : State) (v : Option ResetCause) : (s.setResetHold v).cursors = s.cursors := rfl
@[simp] theorem setResetHold_lanes (s : State) (v : Option ResetCause) : (s.setResetHold v).lanes = s.lanes := rfl
@[simp] theorem setResetHold_faults (s : State) (v : Option ResetCause) : (s.setResetHold v).faults = s.faults := rfl
@[simp] theorem setResetHold_events (s : State) (v : Option ResetCause) : (s.setResetHold v).events = s.events := rfl
@[simp] theorem setResetHold_link (s : State) (v : Option ResetCause) : (s.setResetHold v).link = s.link := rfl

@[simp] theorem setPosition_pending (s : State) (v : PositionUnit) : (s.setPosition v).pending = s.pending := rfl
@[simp] theorem setPosition_freeCount (s : State) (v : PositionUnit) : (s.setPosition v).freeCount = s.freeCount := rfl
@[simp] theorem setPosition_resetHold (s : State) (v : PositionUnit) : (s.setPosition v).resetHold = s.resetHold := rfl
@[simp] theorem setPosition_position (s : State) (v : PositionUnit) : (s.setPosition v).position = v := rfl
@[simp] theorem setPosition_line (s : State) (v : PositionUnit) : (s.setPosition v).line = s.line := rfl
@[simp] theorem setPosition_belt (s : State) (v : PositionUnit) : (s.setPosition v).belt = s.belt := rfl
@[simp] theorem setPosition_infeed (s : State) (v : PositionUnit) : (s.setPosition v).infeed = s.infeed := rfl
@[simp] theorem setPosition_induction (s : State) (v : PositionUnit) : (s.setPosition v).induction = s.induction := rfl
@[simp] theorem setPosition_tracking (s : State) (v : PositionUnit) : (s.setPosition v).tracking = s.tracking := rfl
@[simp] theorem setPosition_routes (s : State) (v : PositionUnit) : (s.setPosition v).routes = s.routes := rfl
@[simp] theorem setPosition_cursors (s : State) (v : PositionUnit) : (s.setPosition v).cursors = s.cursors := rfl
@[simp] theorem setPosition_lanes (s : State) (v : PositionUnit) : (s.setPosition v).lanes = s.lanes := rfl
@[simp] theorem setPosition_faults (s : State) (v : PositionUnit) : (s.setPosition v).faults = s.faults := rfl
@[simp] theorem setPosition_events (s : State) (v : PositionUnit) : (s.setPosition v).events = s.events := rfl
@[simp] theorem setPosition_link (s : State) (v : PositionUnit) : (s.setPosition v).link = s.link := rfl

@[simp] theorem setLine_pending (s : State) (v : LineConfig) : (s.setLine v).pending = s.pending := rfl
@[simp] theorem setLine_freeCount (s : State) (v : LineConfig) : (s.setLine v).freeCount = s.freeCount := rfl
@[simp] theorem setLine_resetHold (s : State) (v : LineConfig) : (s.setLine v).resetHold = s.resetHold := rfl
@[simp] theorem setLine_position (s : State) (v : LineConfig) : (s.setLine v).position = s.position := rfl
@[simp] theorem setLine_line (s : State) (v : LineConfig) : (s.setLine v).line = v := rfl
@[simp] theorem setLine_belt (s : State) (v : LineConfig) : (s.setLine v).belt = s.belt := rfl
@[simp] theorem setLine_infeed (s : State) (v : LineConfig) : (s.setLine v).infeed = s.infeed := rfl
@[simp] theorem setLine_induction (s : State) (v : LineConfig) : (s.setLine v).induction = s.induction := rfl
@[simp] theorem setLine_tracking (s : State) (v : LineConfig) : (s.setLine v).tracking = s.tracking := rfl
@[simp] theorem setLine_routes (s : State) (v : LineConfig) : (s.setLine v).routes = s.routes := rfl
@[simp] theorem setLine_cursors (s : State) (v : LineConfig) : (s.setLine v).cursors = s.cursors := rfl
@[simp] theorem setLine_lanes (s : State) (v : LineConfig) : (s.setLine v).lanes = s.lanes := rfl
@[simp] theorem setLine_faults (s : State) (v : LineConfig) : (s.setLine v).faults = s.faults := rfl
@[simp] theorem setLine_events (s : State) (v : LineConfig) : (s.setLine v).events = s.events := rfl
@[simp] theorem setLine_link (s : State) (v : LineConfig) : (s.setLine v).link = s.link := rfl

@[simp] theorem setBelt_pending (s : State) (v : BeltDrive) : (s.setBelt v).pending = s.pending := rfl
@[simp] theorem setBelt_freeCount (s : State) (v : BeltDrive) : (s.setBelt v).freeCount = s.freeCount := rfl
@[simp] theorem setBelt_resetHold (s : State) (v : BeltDrive) : (s.setBelt v).resetHold = s.resetHold := rfl
@[simp] theorem setBelt_position (s : State) (v : BeltDrive) : (s.setBelt v).position = s.position := rfl
@[simp] theorem setBelt_line (s : State) (v : BeltDrive) : (s.setBelt v).line = s.line := rfl
@[simp] theorem setBelt_belt (s : State) (v : BeltDrive) : (s.setBelt v).belt = v := rfl
@[simp] theorem setBelt_infeed (s : State) (v : BeltDrive) : (s.setBelt v).infeed = s.infeed := rfl
@[simp] theorem setBelt_induction (s : State) (v : BeltDrive) : (s.setBelt v).induction = s.induction := rfl
@[simp] theorem setBelt_tracking (s : State) (v : BeltDrive) : (s.setBelt v).tracking = s.tracking := rfl
@[simp] theorem setBelt_routes (s : State) (v : BeltDrive) : (s.setBelt v).routes = s.routes := rfl
@[simp] theorem setBelt_cursors (s : State) (v : BeltDrive) : (s.setBelt v).cursors = s.cursors := rfl
@[simp] theorem setBelt_lanes (s : State) (v : BeltDrive) : (s.setBelt v).lanes = s.lanes := rfl
@[simp] theorem setBelt_faults (s : State) (v : BeltDrive) : (s.setBelt v).faults = s.faults := rfl
@[simp] theorem setBelt_events (s : State) (v : BeltDrive) : (s.setBelt v).events = s.events := rfl
@[simp] theorem setBelt_link (s : State) (v : BeltDrive) : (s.setBelt v).link = s.link := rfl

@[simp] theorem setInfeed_pending (s : State) (v : Infeed) : (s.setInfeed v).pending = s.pending := rfl
@[simp] theorem setInfeed_freeCount (s : State) (v : Infeed) : (s.setInfeed v).freeCount = s.freeCount := rfl
@[simp] theorem setInfeed_resetHold (s : State) (v : Infeed) : (s.setInfeed v).resetHold = s.resetHold := rfl
@[simp] theorem setInfeed_position (s : State) (v : Infeed) : (s.setInfeed v).position = s.position := rfl
@[simp] theorem setInfeed_line (s : State) (v : Infeed) : (s.setInfeed v).line = s.line := rfl
@[simp] theorem setInfeed_belt (s : State) (v : Infeed) : (s.setInfeed v).belt = s.belt := rfl
@[simp] theorem setInfeed_infeed (s : State) (v : Infeed) : (s.setInfeed v).infeed = v := rfl
@[simp] theorem setInfeed_induction (s : State) (v : Infeed) : (s.setInfeed v).induction = s.induction := rfl
@[simp] theorem setInfeed_tracking (s : State) (v : Infeed) : (s.setInfeed v).tracking = s.tracking := rfl
@[simp] theorem setInfeed_routes (s : State) (v : Infeed) : (s.setInfeed v).routes = s.routes := rfl
@[simp] theorem setInfeed_cursors (s : State) (v : Infeed) : (s.setInfeed v).cursors = s.cursors := rfl
@[simp] theorem setInfeed_lanes (s : State) (v : Infeed) : (s.setInfeed v).lanes = s.lanes := rfl
@[simp] theorem setInfeed_faults (s : State) (v : Infeed) : (s.setInfeed v).faults = s.faults := rfl
@[simp] theorem setInfeed_events (s : State) (v : Infeed) : (s.setInfeed v).events = s.events := rfl
@[simp] theorem setInfeed_link (s : State) (v : Infeed) : (s.setInfeed v).link = s.link := rfl

@[simp] theorem setInduction_pending (s : State) (v : Induction) : (s.setInduction v).pending = s.pending := rfl
@[simp] theorem setInduction_freeCount (s : State) (v : Induction) : (s.setInduction v).freeCount = s.freeCount := rfl
@[simp] theorem setInduction_resetHold (s : State) (v : Induction) : (s.setInduction v).resetHold = s.resetHold := rfl
@[simp] theorem setInduction_position (s : State) (v : Induction) : (s.setInduction v).position = s.position := rfl
@[simp] theorem setInduction_line (s : State) (v : Induction) : (s.setInduction v).line = s.line := rfl
@[simp] theorem setInduction_belt (s : State) (v : Induction) : (s.setInduction v).belt = s.belt := rfl
@[simp] theorem setInduction_infeed (s : State) (v : Induction) : (s.setInduction v).infeed = s.infeed := rfl
@[simp] theorem setInduction_induction (s : State) (v : Induction) : (s.setInduction v).induction = v := rfl
@[simp] theorem setInduction_tracking (s : State) (v : Induction) : (s.setInduction v).tracking = s.tracking := rfl
@[simp] theorem setInduction_routes (s : State) (v : Induction) : (s.setInduction v).routes = s.routes := rfl
@[simp] theorem setInduction_cursors (s : State) (v : Induction) : (s.setInduction v).cursors = s.cursors := rfl
@[simp] theorem setInduction_lanes (s : State) (v : Induction) : (s.setInduction v).lanes = s.lanes := rfl
@[simp] theorem setInduction_faults (s : State) (v : Induction) : (s.setInduction v).faults = s.faults := rfl
@[simp] theorem setInduction_events (s : State) (v : Induction) : (s.setInduction v).events = s.events := rfl
@[simp] theorem setInduction_link (s : State) (v : Induction) : (s.setInduction v).link = s.link := rfl

@[simp] theorem setTracking_pending (s : State) (v : Tracking) : (s.setTracking v).pending = s.pending := rfl
@[simp] theorem setTracking_freeCount (s : State) (v : Tracking) : (s.setTracking v).freeCount = s.freeCount := rfl
@[simp] theorem setTracking_resetHold (s : State) (v : Tracking) : (s.setTracking v).resetHold = s.resetHold := rfl
@[simp] theorem setTracking_position (s : State) (v : Tracking) : (s.setTracking v).position = s.position := rfl
@[simp] theorem setTracking_line (s : State) (v : Tracking) : (s.setTracking v).line = s.line := rfl
@[simp] theorem setTracking_belt (s : State) (v : Tracking) : (s.setTracking v).belt = s.belt := rfl
@[simp] theorem setTracking_infeed (s : State) (v : Tracking) : (s.setTracking v).infeed = s.infeed := rfl
@[simp] theorem setTracking_induction (s : State) (v : Tracking) : (s.setTracking v).induction = s.induction := rfl
@[simp] theorem setTracking_tracking (s : State) (v : Tracking) : (s.setTracking v).tracking = v := rfl
@[simp] theorem setTracking_routes (s : State) (v : Tracking) : (s.setTracking v).routes = s.routes := rfl
@[simp] theorem setTracking_cursors (s : State) (v : Tracking) : (s.setTracking v).cursors = s.cursors := rfl
@[simp] theorem setTracking_lanes (s : State) (v : Tracking) : (s.setTracking v).lanes = s.lanes := rfl
@[simp] theorem setTracking_faults (s : State) (v : Tracking) : (s.setTracking v).faults = s.faults := rfl
@[simp] theorem setTracking_events (s : State) (v : Tracking) : (s.setTracking v).events = s.events := rfl
@[simp] theorem setTracking_link (s : State) (v : Tracking) : (s.setTracking v).link = s.link := rfl

@[simp] theorem setRoutes_pending (s : State) (v : RouteTable) : (s.setRoutes v).pending = s.pending := rfl
@[simp] theorem setRoutes_freeCount (s : State) (v : RouteTable) : (s.setRoutes v).freeCount = s.freeCount := rfl
@[simp] theorem setRoutes_resetHold (s : State) (v : RouteTable) : (s.setRoutes v).resetHold = s.resetHold := rfl
@[simp] theorem setRoutes_position (s : State) (v : RouteTable) : (s.setRoutes v).position = s.position := rfl
@[simp] theorem setRoutes_line (s : State) (v : RouteTable) : (s.setRoutes v).line = s.line := rfl
@[simp] theorem setRoutes_belt (s : State) (v : RouteTable) : (s.setRoutes v).belt = s.belt := rfl
@[simp] theorem setRoutes_infeed (s : State) (v : RouteTable) : (s.setRoutes v).infeed = s.infeed := rfl
@[simp] theorem setRoutes_induction (s : State) (v : RouteTable) : (s.setRoutes v).induction = s.induction := rfl
@[simp] theorem setRoutes_tracking (s : State) (v : RouteTable) : (s.setRoutes v).tracking = s.tracking := rfl
@[simp] theorem setRoutes_routes (s : State) (v : RouteTable) : (s.setRoutes v).routes = v := rfl
@[simp] theorem setRoutes_cursors (s : State) (v : RouteTable) : (s.setRoutes v).cursors = s.cursors := rfl
@[simp] theorem setRoutes_lanes (s : State) (v : RouteTable) : (s.setRoutes v).lanes = s.lanes := rfl
@[simp] theorem setRoutes_faults (s : State) (v : RouteTable) : (s.setRoutes v).faults = s.faults := rfl
@[simp] theorem setRoutes_events (s : State) (v : RouteTable) : (s.setRoutes v).events = s.events := rfl
@[simp] theorem setRoutes_link (s : State) (v : RouteTable) : (s.setRoutes v).link = s.link := rfl

@[simp] theorem setCursors_pending (s : State) (v : Vector LaneId 8) : (s.setCursors v).pending = s.pending := rfl
@[simp] theorem setCursors_freeCount (s : State) (v : Vector LaneId 8) : (s.setCursors v).freeCount = s.freeCount := rfl
@[simp] theorem setCursors_resetHold (s : State) (v : Vector LaneId 8) : (s.setCursors v).resetHold = s.resetHold := rfl
@[simp] theorem setCursors_position (s : State) (v : Vector LaneId 8) : (s.setCursors v).position = s.position := rfl
@[simp] theorem setCursors_line (s : State) (v : Vector LaneId 8) : (s.setCursors v).line = s.line := rfl
@[simp] theorem setCursors_belt (s : State) (v : Vector LaneId 8) : (s.setCursors v).belt = s.belt := rfl
@[simp] theorem setCursors_infeed (s : State) (v : Vector LaneId 8) : (s.setCursors v).infeed = s.infeed := rfl
@[simp] theorem setCursors_induction (s : State) (v : Vector LaneId 8) : (s.setCursors v).induction = s.induction := rfl
@[simp] theorem setCursors_tracking (s : State) (v : Vector LaneId 8) : (s.setCursors v).tracking = s.tracking := rfl
@[simp] theorem setCursors_routes (s : State) (v : Vector LaneId 8) : (s.setCursors v).routes = s.routes := rfl
@[simp] theorem setCursors_cursors (s : State) (v : Vector LaneId 8) : (s.setCursors v).cursors = v := rfl
@[simp] theorem setCursors_lanes (s : State) (v : Vector LaneId 8) : (s.setCursors v).lanes = s.lanes := rfl
@[simp] theorem setCursors_faults (s : State) (v : Vector LaneId 8) : (s.setCursors v).faults = s.faults := rfl
@[simp] theorem setCursors_events (s : State) (v : Vector LaneId 8) : (s.setCursors v).events = s.events := rfl
@[simp] theorem setCursors_link (s : State) (v : Vector LaneId 8) : (s.setCursors v).link = s.link := rfl

@[simp] theorem setLanes_pending (s : State) (v : Vector LaneUnit 16) : (s.setLanes v).pending = s.pending := rfl
@[simp] theorem setLanes_freeCount (s : State) (v : Vector LaneUnit 16) : (s.setLanes v).freeCount = s.freeCount := rfl
@[simp] theorem setLanes_resetHold (s : State) (v : Vector LaneUnit 16) : (s.setLanes v).resetHold = s.resetHold := rfl
@[simp] theorem setLanes_position (s : State) (v : Vector LaneUnit 16) : (s.setLanes v).position = s.position := rfl
@[simp] theorem setLanes_line (s : State) (v : Vector LaneUnit 16) : (s.setLanes v).line = s.line := rfl
@[simp] theorem setLanes_belt (s : State) (v : Vector LaneUnit 16) : (s.setLanes v).belt = s.belt := rfl
@[simp] theorem setLanes_infeed (s : State) (v : Vector LaneUnit 16) : (s.setLanes v).infeed = s.infeed := rfl
@[simp] theorem setLanes_induction (s : State) (v : Vector LaneUnit 16) : (s.setLanes v).induction = s.induction := rfl
@[simp] theorem setLanes_tracking (s : State) (v : Vector LaneUnit 16) : (s.setLanes v).tracking = s.tracking := rfl
@[simp] theorem setLanes_routes (s : State) (v : Vector LaneUnit 16) : (s.setLanes v).routes = s.routes := rfl
@[simp] theorem setLanes_cursors (s : State) (v : Vector LaneUnit 16) : (s.setLanes v).cursors = s.cursors := rfl
@[simp] theorem setLanes_lanes (s : State) (v : Vector LaneUnit 16) : (s.setLanes v).lanes = v := rfl
@[simp] theorem setLanes_faults (s : State) (v : Vector LaneUnit 16) : (s.setLanes v).faults = s.faults := rfl
@[simp] theorem setLanes_events (s : State) (v : Vector LaneUnit 16) : (s.setLanes v).events = s.events := rfl
@[simp] theorem setLanes_link (s : State) (v : Vector LaneUnit 16) : (s.setLanes v).link = s.link := rfl

@[simp] theorem setFaults_pending (s : State) (v : FaultUnit) : (s.setFaults v).pending = s.pending := rfl
@[simp] theorem setFaults_freeCount (s : State) (v : FaultUnit) : (s.setFaults v).freeCount = s.freeCount := rfl
@[simp] theorem setFaults_resetHold (s : State) (v : FaultUnit) : (s.setFaults v).resetHold = s.resetHold := rfl
@[simp] theorem setFaults_position (s : State) (v : FaultUnit) : (s.setFaults v).position = s.position := rfl
@[simp] theorem setFaults_line (s : State) (v : FaultUnit) : (s.setFaults v).line = s.line := rfl
@[simp] theorem setFaults_belt (s : State) (v : FaultUnit) : (s.setFaults v).belt = s.belt := rfl
@[simp] theorem setFaults_infeed (s : State) (v : FaultUnit) : (s.setFaults v).infeed = s.infeed := rfl
@[simp] theorem setFaults_induction (s : State) (v : FaultUnit) : (s.setFaults v).induction = s.induction := rfl
@[simp] theorem setFaults_tracking (s : State) (v : FaultUnit) : (s.setFaults v).tracking = s.tracking := rfl
@[simp] theorem setFaults_routes (s : State) (v : FaultUnit) : (s.setFaults v).routes = s.routes := rfl
@[simp] theorem setFaults_cursors (s : State) (v : FaultUnit) : (s.setFaults v).cursors = s.cursors := rfl
@[simp] theorem setFaults_lanes (s : State) (v : FaultUnit) : (s.setFaults v).lanes = s.lanes := rfl
@[simp] theorem setFaults_faults (s : State) (v : FaultUnit) : (s.setFaults v).faults = v := rfl
@[simp] theorem setFaults_events (s : State) (v : FaultUnit) : (s.setFaults v).events = s.events := rfl
@[simp] theorem setFaults_link (s : State) (v : FaultUnit) : (s.setFaults v).link = s.link := rfl

@[simp] theorem setEvents_pending (s : State) (v : EventUnit) : (s.setEvents v).pending = s.pending := rfl
@[simp] theorem setEvents_freeCount (s : State) (v : EventUnit) : (s.setEvents v).freeCount = s.freeCount := rfl
@[simp] theorem setEvents_resetHold (s : State) (v : EventUnit) : (s.setEvents v).resetHold = s.resetHold := rfl
@[simp] theorem setEvents_position (s : State) (v : EventUnit) : (s.setEvents v).position = s.position := rfl
@[simp] theorem setEvents_line (s : State) (v : EventUnit) : (s.setEvents v).line = s.line := rfl
@[simp] theorem setEvents_belt (s : State) (v : EventUnit) : (s.setEvents v).belt = s.belt := rfl
@[simp] theorem setEvents_infeed (s : State) (v : EventUnit) : (s.setEvents v).infeed = s.infeed := rfl
@[simp] theorem setEvents_induction (s : State) (v : EventUnit) : (s.setEvents v).induction = s.induction := rfl
@[simp] theorem setEvents_tracking (s : State) (v : EventUnit) : (s.setEvents v).tracking = s.tracking := rfl
@[simp] theorem setEvents_routes (s : State) (v : EventUnit) : (s.setEvents v).routes = s.routes := rfl
@[simp] theorem setEvents_cursors (s : State) (v : EventUnit) : (s.setEvents v).cursors = s.cursors := rfl
@[simp] theorem setEvents_lanes (s : State) (v : EventUnit) : (s.setEvents v).lanes = s.lanes := rfl
@[simp] theorem setEvents_faults (s : State) (v : EventUnit) : (s.setEvents v).faults = s.faults := rfl
@[simp] theorem setEvents_events (s : State) (v : EventUnit) : (s.setEvents v).events = v := rfl
@[simp] theorem setEvents_link (s : State) (v : EventUnit) : (s.setEvents v).link = s.link := rfl

@[simp] theorem setLink_pending (s : State) (v : Link) : (s.setLink v).pending = s.pending := rfl
@[simp] theorem setLink_freeCount (s : State) (v : Link) : (s.setLink v).freeCount = s.freeCount := rfl
@[simp] theorem setLink_resetHold (s : State) (v : Link) : (s.setLink v).resetHold = s.resetHold := rfl
@[simp] theorem setLink_position (s : State) (v : Link) : (s.setLink v).position = s.position := rfl
@[simp] theorem setLink_line (s : State) (v : Link) : (s.setLink v).line = s.line := rfl
@[simp] theorem setLink_belt (s : State) (v : Link) : (s.setLink v).belt = s.belt := rfl
@[simp] theorem setLink_infeed (s : State) (v : Link) : (s.setLink v).infeed = s.infeed := rfl
@[simp] theorem setLink_induction (s : State) (v : Link) : (s.setLink v).induction = s.induction := rfl
@[simp] theorem setLink_tracking (s : State) (v : Link) : (s.setLink v).tracking = s.tracking := rfl
@[simp] theorem setLink_routes (s : State) (v : Link) : (s.setLink v).routes = s.routes := rfl
@[simp] theorem setLink_cursors (s : State) (v : Link) : (s.setLink v).cursors = s.cursors := rfl
@[simp] theorem setLink_lanes (s : State) (v : Link) : (s.setLink v).lanes = s.lanes := rfl
@[simp] theorem setLink_faults (s : State) (v : Link) : (s.setLink v).faults = s.faults := rfl
@[simp] theorem setLink_events (s : State) (v : Link) : (s.setLink v).events = s.events := rfl
@[simp] theorem setLink_link (s : State) (v : Link) : (s.setLink v).link = v := rfl

end Sys2Proof.Machine
end

