-- ==== Sys2Proof/Laws/Frames.lean ====
section
/-! SUPPORT. For each shared operation, the blocks of the state it does not touch: one lemma each, for
`simp`, so that a proof about another block need not unfold it. -/

namespace Sys2Proof.Machine

/-- A projection that one turn keeps is kept by a fold. -/
theorem foldl_keeps {α β γ : Type} (p : β → γ) (f : β → α → β) (h : ∀ t x, p (f t x) = p t)
    (l : List α) (s : β) : p (l.foldl f s) = p s := by
  induction l generalizing s with
  | nil => rfl
  | cons x l ih => rw [List.foldl_cons, ih, h]

/-- A projection that the turn of each lane keeps is kept by `forLanes`. -/
theorem forLanes_keeps {γ : Type} (p : State → γ) (f : LaneId → State → State)
    (h : ∀ l t, p (f l t) = p t) (s : State) : p (forLanes f s) = p s :=
  foldl_keeps p _ (fun t l => h l t) _ s

/-- A property that one turn keeps is kept by a fold. -/
theorem foldl_invariant {α β : Type} (P : β → Prop) (f : β → α → β) (h : ∀ t x, P t → P (f t x))
    (l : List α) (s : β) (hs : P s) : P (l.foldl f s) := by
  induction l generalizing s with
  | nil => exact hs
  | cons x l ih => exact ih _ (h s x hs)

/-- A property that the turn of each lane keeps is kept by `forLanes`. -/
theorem forLanes_invariant (P : State → Prop) (f : LaneId → State → State)
    (h : ∀ l t, P t → P (f l t)) (s : State) (hs : P s) : P (forLanes f s) :=
  foldl_invariant P _ (fun t l => h l t) _ s hs

/-- The blocks `modifyLane` does not touch. -/
@[simp] theorem modifyLane_frame (l : LaneId) (f : LaneUnit → LaneUnit) (s : State) :
    (modifyLane l f s).pending = s.pending ∧
    (modifyLane l f s).freeCount = s.freeCount ∧
    (modifyLane l f s).resetHold = s.resetHold ∧
    (modifyLane l f s).position = s.position ∧
    (modifyLane l f s).line = s.line ∧
    (modifyLane l f s).belt = s.belt ∧
    (modifyLane l f s).infeed = s.infeed ∧
    (modifyLane l f s).induction = s.induction ∧
    (modifyLane l f s).tracking = s.tracking ∧
    (modifyLane l f s).routes = s.routes ∧
    (modifyLane l f s).cursors = s.cursors ∧
    (modifyLane l f s).faults = s.faults ∧
    (modifyLane l f s).events = s.events ∧
    (modifyLane l f s).link = s.link := by
  simp [modifyLane, State.setLane]

/-- The blocks `handEvent` does not touch. -/
@[simp] theorem handEvent_frame (p : EventPair) (pos : Word) (s : State) :
    (handEvent p pos s).pending = s.pending ∧
    (handEvent p pos s).freeCount = s.freeCount ∧
    (handEvent p pos s).resetHold = s.resetHold ∧
    (handEvent p pos s).position = s.position ∧
    (handEvent p pos s).line = s.line ∧
    (handEvent p pos s).belt = s.belt ∧
    (handEvent p pos s).infeed = s.infeed ∧
    (handEvent p pos s).induction = s.induction ∧
    (handEvent p pos s).tracking = s.tracking ∧
    (handEvent p pos s).routes = s.routes ∧
    (handEvent p pos s).cursors = s.cursors ∧
    (handEvent p pos s).lanes = s.lanes ∧
    (handEvent p pos s).faults = s.faults ∧
    (handEvent p pos s).link = s.link := by
  unfold handEvent; (try dsimp only); repeat' split
  all_goals simp

/-- The blocks `chooseInfeed` does not touch. -/
@[simp] theorem chooseInfeed_frame (s : State) :
    (chooseInfeed s).pending = s.pending ∧
    (chooseInfeed s).freeCount = s.freeCount ∧
    (chooseInfeed s).resetHold = s.resetHold ∧
    (chooseInfeed s).position = s.position ∧
    (chooseInfeed s).line = s.line ∧
    (chooseInfeed s).belt = s.belt ∧
    (chooseInfeed s).induction = s.induction ∧
    (chooseInfeed s).tracking = s.tracking ∧
    (chooseInfeed s).routes = s.routes ∧
    (chooseInfeed s).cursors = s.cursors ∧
    (chooseInfeed s).lanes = s.lanes ∧
    (chooseInfeed s).faults = s.faults ∧
    (chooseInfeed s).link = s.link := by
  unfold chooseInfeed; (try dsimp only); repeat' split
  all_goals simp

/-- The blocks `queueReply` does not touch. -/
@[simp] theorem queueReply_frame (r : Reply) (s : State) :
    (queueReply r s).pending = s.pending ∧
    (queueReply r s).freeCount = s.freeCount ∧
    (queueReply r s).resetHold = s.resetHold ∧
    (queueReply r s).position = s.position ∧
    (queueReply r s).line = s.line ∧
    (queueReply r s).belt = s.belt ∧
    (queueReply r s).infeed = s.infeed ∧
    (queueReply r s).induction = s.induction ∧
    (queueReply r s).tracking = s.tracking ∧
    (queueReply r s).routes = s.routes ∧
    (queueReply r s).cursors = s.cursors ∧
    (queueReply r s).lanes = s.lanes ∧
    (queueReply r s).faults = s.faults ∧
    (queueReply r s).events = s.events := by
  simp [queueReply]

/-- The blocks `replyTo` does not touch. -/
@[simp] theorem replyTo_frame (f : Frame) (st : Status) (b : List Byte) (s : State) :
    (replyTo f st b s).pending = s.pending ∧
    (replyTo f st b s).freeCount = s.freeCount ∧
    (replyTo f st b s).resetHold = s.resetHold ∧
    (replyTo f st b s).position = s.position ∧
    (replyTo f st b s).line = s.line ∧
    (replyTo f st b s).belt = s.belt ∧
    (replyTo f st b s).infeed = s.infeed ∧
    (replyTo f st b s).induction = s.induction ∧
    (replyTo f st b s).tracking = s.tracking ∧
    (replyTo f st b s).routes = s.routes ∧
    (replyTo f st b s).cursors = s.cursors ∧
    (replyTo f st b s).lanes = s.lanes ∧
    (replyTo f st b s).faults = s.faults ∧
    (replyTo f st b s).events = s.events := by
  simp [replyTo]

/-- The blocks `queueItemReport` does not touch. -/
@[simp] theorem queueItemReport_frame (r : ItemReport) (s : State) :
    (queueItemReport r s).pending = s.pending ∧
    (queueItemReport r s).freeCount = s.freeCount ∧
    (queueItemReport r s).resetHold = s.resetHold ∧
    (queueItemReport r s).position = s.position ∧
    (queueItemReport r s).line = s.line ∧
    (queueItemReport r s).belt = s.belt ∧
    (queueItemReport r s).infeed = s.infeed ∧
    (queueItemReport r s).induction = s.induction ∧
    (queueItemReport r s).tracking = s.tracking ∧
    (queueItemReport r s).routes = s.routes ∧
    (queueItemReport r s).cursors = s.cursors ∧
    (queueItemReport r s).lanes = s.lanes ∧
    (queueItemReport r s).faults = s.faults ∧
    (queueItemReport r s).events = s.events := by
  simp [queueItemReport]

/-- The blocks `fenceNotice` does not touch. -/
@[simp] theorem fenceNotice_frame (item : Nat) (s : State) :
    (fenceNotice item s).pending = s.pending ∧
    (fenceNotice item s).freeCount = s.freeCount ∧
    (fenceNotice item s).resetHold = s.resetHold ∧
    (fenceNotice item s).position = s.position ∧
    (fenceNotice item s).line = s.line ∧
    (fenceNotice item s).belt = s.belt ∧
    (fenceNotice item s).infeed = s.infeed ∧
    (fenceNotice item s).induction = s.induction ∧
    (fenceNotice item s).routes = s.routes ∧
    (fenceNotice item s).cursors = s.cursors ∧
    (fenceNotice item s).lanes = s.lanes ∧
    (fenceNotice item s).faults = s.faults ∧
    (fenceNotice item s).events = s.events := by
  simp [fenceNotice]

/-- The blocks `abortFences` does not touch. -/
@[simp] theorem abortFences_frame (s : State) :
    (abortFences s).pending = s.pending ∧
    (abortFences s).freeCount = s.freeCount ∧
    (abortFences s).resetHold = s.resetHold ∧
    (abortFences s).position = s.position ∧
    (abortFences s).line = s.line ∧
    (abortFences s).belt = s.belt ∧
    (abortFences s).infeed = s.infeed ∧
    (abortFences s).induction = s.induction ∧
    (abortFences s).routes = s.routes ∧
    (abortFences s).cursors = s.cursors ∧
    (abortFences s).lanes = s.lanes ∧
    (abortFences s).faults = s.faults ∧
    (abortFences s).events = s.events := by
  simp [abortFences]

/-- The blocks `modifyRecord` does not touch. -/
@[simp] theorem modifyRecord_frame (item : Nat) (f : Record → Record) (s : State) :
    (modifyRecord item f s).pending = s.pending ∧
    (modifyRecord item f s).freeCount = s.freeCount ∧
    (modifyRecord item f s).resetHold = s.resetHold ∧
    (modifyRecord item f s).position = s.position ∧
    (modifyRecord item f s).line = s.line ∧
    (modifyRecord item f s).belt = s.belt ∧
    (modifyRecord item f s).infeed = s.infeed ∧
    (modifyRecord item f s).induction = s.induction ∧
    (modifyRecord item f s).routes = s.routes ∧
    (modifyRecord item f s).cursors = s.cursors ∧
    (modifyRecord item f s).lanes = s.lanes ∧
    (modifyRecord item f s).faults = s.faults ∧
    (modifyRecord item f s).events = s.events ∧
    (modifyRecord item f s).link = s.link := by
  simp [modifyRecord]

/-- The blocks `giveFate` does not touch. -/
@[simp] theorem giveFate_frame (item : Nat) (fate : Fate) (d : Option Int) (s : State) :
    (giveFate item fate d s).pending = s.pending ∧
    (giveFate item fate d s).freeCount = s.freeCount ∧
    (giveFate item fate d s).resetHold = s.resetHold ∧
    (giveFate item fate d s).position = s.position ∧
    (giveFate item fate d s).line = s.line ∧
    (giveFate item fate d s).belt = s.belt ∧
    (giveFate item fate d s).infeed = s.infeed ∧
    (giveFate item fate d s).induction = s.induction ∧
    (giveFate item fate d s).routes = s.routes ∧
    (giveFate item fate d s).cursors = s.cursors ∧
    (giveFate item fate d s).lanes = s.lanes ∧
    (giveFate item fate d s).faults = s.faults ∧
    (giveFate item fate d s).events = s.events := by
  unfold giveFate; (try dsimp only); repeat' split
  all_goals simp

/-- The blocks `enterRunout` does not touch. -/
@[simp] theorem enterRunout_frame (item : Nat) (r : Reason) (s : State) :
    (enterRunout item r s).pending = s.pending ∧
    (enterRunout item r s).freeCount = s.freeCount ∧
    (enterRunout item r s).resetHold = s.resetHold ∧
    (enterRunout item r s).position = s.position ∧
    (enterRunout item r s).line = s.line ∧
    (enterRunout item r s).belt = s.belt ∧
    (enterRunout item r s).infeed = s.infeed ∧
    (enterRunout item r s).induction = s.induction ∧
    (enterRunout item r s).routes = s.routes ∧
    (enterRunout item r s).cursors = s.cursors ∧
    (enterRunout item r s).lanes = s.lanes ∧
    (enterRunout item r s).faults = s.faults ∧
    (enterRunout item r s).events = s.events := by
  unfold enterRunout; (try dsimp only); repeat' split
  all_goals simp

/-- The blocks `enterDecel` does not touch. -/
@[simp] theorem enterDecel_frame (s : State) :
    (enterDecel s).pending = s.pending ∧
    (enterDecel s).freeCount = s.freeCount ∧
    (enterDecel s).resetHold = s.resetHold ∧
    (enterDecel s).position = s.position ∧
    (enterDecel s).line = s.line ∧
    (enterDecel s).induction = s.induction ∧
    (enterDecel s).tracking = s.tracking ∧
    (enterDecel s).routes = s.routes ∧
    (enterDecel s).cursors = s.cursors ∧
    (enterDecel s).lanes = s.lanes ∧
    (enterDecel s).faults = s.faults ∧
    (enterDecel s).link = s.link := by
  simp [enterDecel]

/-- The blocks `enterBrake` does not touch. -/
@[simp] theorem enterBrake_frame (s : State) :
    (enterBrake s).pending = s.pending ∧
    (enterBrake s).freeCount = s.freeCount ∧
    (enterBrake s).resetHold = s.resetHold ∧
    (enterBrake s).position = s.position ∧
    (enterBrake s).line = s.line ∧
    (enterBrake s).induction = s.induction ∧
    (enterBrake s).tracking = s.tracking ∧
    (enterBrake s).routes = s.routes ∧
    (enterBrake s).cursors = s.cursors ∧
    (enterBrake s).lanes = s.lanes ∧
    (enterBrake s).faults = s.faults ∧
    (enterBrake s).link = s.link := by
  simp [enterBrake]

/-- The blocks `beltHalt` does not touch. -/
@[simp] theorem beltHalt_frame (s : State) :
    (beltHalt s).pending = s.pending ∧
    (beltHalt s).freeCount = s.freeCount ∧
    (beltHalt s).resetHold = s.resetHold ∧
    (beltHalt s).position = s.position ∧
    (beltHalt s).line = s.line ∧
    (beltHalt s).induction = s.induction ∧
    (beltHalt s).tracking = s.tracking ∧
    (beltHalt s).routes = s.routes ∧
    (beltHalt s).cursors = s.cursors ∧
    (beltHalt s).lanes = s.lanes ∧
    (beltHalt s).faults = s.faults ∧
    (beltHalt s).link = s.link := by
  unfold beltHalt; repeat' split
  all_goals simp

/-- The blocks `beltBrake` does not touch. -/
@[simp] theorem beltBrake_frame (s : State) :
    (beltBrake s).pending = s.pending ∧
    (beltBrake s).freeCount = s.freeCount ∧
    (beltBrake s).resetHold = s.resetHold ∧
    (beltBrake s).position = s.position ∧
    (beltBrake s).line = s.line ∧
    (beltBrake s).induction = s.induction ∧
    (beltBrake s).tracking = s.tracking ∧
    (beltBrake s).routes = s.routes ∧
    (beltBrake s).cursors = s.cursors ∧
    (beltBrake s).lanes = s.lanes ∧
    (beltBrake s).faults = s.faults ∧
    (beltBrake s).link = s.link := by
  unfold beltBrake; repeat' split
  all_goals simp

/-- The blocks `enterRun` does not touch. -/
@[simp] theorem enterRun_frame (s : State) :
    (enterRun s).pending = s.pending ∧
    (enterRun s).freeCount = s.freeCount ∧
    (enterRun s).resetHold = s.resetHold ∧
    (enterRun s).position = s.position ∧
    (enterRun s).line = s.line ∧
    (enterRun s).induction = s.induction ∧
    (enterRun s).tracking = s.tracking ∧
    (enterRun s).routes = s.routes ∧
    (enterRun s).cursors = s.cursors ∧
    (enterRun s).lanes = s.lanes ∧
    (enterRun s).faults = s.faults ∧
    (enterRun s).link = s.link := by
  simp [enterRun]

/-- The blocks `testExit` does not touch. -/
@[simp] theorem testExit_frame (l : LaneId) (s : State) :
    (testExit l s).pending = s.pending ∧
    (testExit l s).freeCount = s.freeCount ∧
    (testExit l s).resetHold = s.resetHold ∧
    (testExit l s).position = s.position ∧
    (testExit l s).line = s.line ∧
    (testExit l s).belt = s.belt ∧
    (testExit l s).infeed = s.infeed ∧
    (testExit l s).induction = s.induction ∧
    (testExit l s).tracking = s.tracking ∧
    (testExit l s).routes = s.routes ∧
    (testExit l s).cursors = s.cursors ∧
    (testExit l s).faults = s.faults ∧
    (testExit l s).link = s.link := by
  unfold testExit; (try dsimp only); repeat' split
  all_goals simp [State.setLane]

/-- The blocks `retractRequest` does not touch. -/
@[simp] theorem retractRequest_frame (l : LaneId) (s : State) :
    (retractRequest l s).pending = s.pending ∧
    (retractRequest l s).freeCount = s.freeCount ∧
    (retractRequest l s).resetHold = s.resetHold ∧
    (retractRequest l s).position = s.position ∧
    (retractRequest l s).line = s.line ∧
    (retractRequest l s).belt = s.belt ∧
    (retractRequest l s).infeed = s.infeed ∧
    (retractRequest l s).induction = s.induction ∧
    (retractRequest l s).tracking = s.tracking ∧
    (retractRequest l s).routes = s.routes ∧
    (retractRequest l s).cursors = s.cursors ∧
    (retractRequest l s).faults = s.faults ∧
    (retractRequest l s).link = s.link := by
  unfold retractRequest; repeat' split
  all_goals simp

/-- The blocks `withdrawReserved` does not touch. -/
@[simp] theorem withdrawReserved_frame (l : LaneId) (s : State) :
    (withdrawReserved l s).pending = s.pending ∧
    (withdrawReserved l s).freeCount = s.freeCount ∧
    (withdrawReserved l s).resetHold = s.resetHold ∧
    (withdrawReserved l s).position = s.position ∧
    (withdrawReserved l s).line = s.line ∧
    (withdrawReserved l s).belt = s.belt ∧
    (withdrawReserved l s).infeed = s.infeed ∧
    (withdrawReserved l s).induction = s.induction ∧
    (withdrawReserved l s).routes = s.routes ∧
    (withdrawReserved l s).cursors = s.cursors ∧
    (withdrawReserved l s).faults = s.faults ∧
    (withdrawReserved l s).events = s.events := by
  unfold withdrawReserved; dsimp only
  and_intros <;>
    (refine (foldl_keeps _ _ ?_ _ _).trans ?_
     · intro t x; simp
     · simp [State.setLane])

/-- The blocks `enterClosing` does not touch. -/
@[simp] theorem enterClosing_frame (l : LaneId) (t : ClosingTarget) (s : State) :
    (enterClosing l t s).pending = s.pending ∧
    (enterClosing l t s).freeCount = s.freeCount ∧
    (enterClosing l t s).resetHold = s.resetHold ∧
    (enterClosing l t s).position = s.position ∧
    (enterClosing l t s).line = s.line ∧
    (enterClosing l t s).belt = s.belt ∧
    (enterClosing l t s).infeed = s.infeed ∧
    (enterClosing l t s).induction = s.induction ∧
    (enterClosing l t s).routes = s.routes ∧
    (enterClosing l t s).cursors = s.cursors ∧
    (enterClosing l t s).faults = s.faults := by
  simp [enterClosing]

/-- The blocks `fenceLane` does not touch. -/
@[simp] theorem fenceLane_frame (l : LaneId) (s : State) :
    (fenceLane l s).pending = s.pending ∧
    (fenceLane l s).freeCount = s.freeCount ∧
    (fenceLane l s).resetHold = s.resetHold ∧
    (fenceLane l s).position = s.position ∧
    (fenceLane l s).line = s.line ∧
    (fenceLane l s).belt = s.belt ∧
    (fenceLane l s).infeed = s.infeed ∧
    (fenceLane l s).induction = s.induction ∧
    (fenceLane l s).routes = s.routes ∧
    (fenceLane l s).cursors = s.cursors ∧
    (fenceLane l s).faults = s.faults := by
  unfold fenceLane; repeat' split
  all_goals simp

/-- The blocks `emptyLane` does not touch. -/
@[simp] theorem emptyLane_frame (l : LaneId) (s : State) :
    (emptyLane l s).pending = s.pending ∧
    (emptyLane l s).freeCount = s.freeCount ∧
    (emptyLane l s).resetHold = s.resetHold ∧
    (emptyLane l s).position = s.position ∧
    (emptyLane l s).line = s.line ∧
    (emptyLane l s).belt = s.belt ∧
    (emptyLane l s).infeed = s.infeed ∧
    (emptyLane l s).induction = s.induction ∧
    (emptyLane l s).tracking = s.tracking ∧
    (emptyLane l s).routes = s.routes ∧
    (emptyLane l s).cursors = s.cursors ∧
    (emptyLane l s).faults = s.faults ∧
    (emptyLane l s).link = s.link := by
  simp [emptyLane]

/-- The blocks `purgeRecords` does not touch. -/
@[simp] theorem purgeRecords_frame (s : State) :
    (purgeRecords s).pending = s.pending ∧
    (purgeRecords s).freeCount = s.freeCount ∧
    (purgeRecords s).resetHold = s.resetHold ∧
    (purgeRecords s).position = s.position ∧
    (purgeRecords s).line = s.line ∧
    (purgeRecords s).belt = s.belt ∧
    (purgeRecords s).infeed = s.infeed ∧
    (purgeRecords s).induction = s.induction ∧
    (purgeRecords s).routes = s.routes ∧
    (purgeRecords s).cursors = s.cursors ∧
    (purgeRecords s).lanes = s.lanes ∧
    (purgeRecords s).faults = s.faults ∧
    (purgeRecords s).events = s.events := by
  simp [purgeRecords]

/-- The blocks `purge` does not touch. -/
@[simp] theorem purge_frame (s : State) :
    (purge s).pending = s.pending ∧
    (purge s).freeCount = s.freeCount ∧
    (purge s).resetHold = s.resetHold ∧
    (purge s).position = s.position ∧
    (purge s).line = s.line ∧
    (purge s).belt = s.belt ∧
    (purge s).infeed = s.infeed ∧
    (purge s).induction = s.induction ∧
    (purge s).routes = s.routes ∧
    (purge s).cursors = s.cursors ∧
    (purge s).faults = s.faults := by
  unfold purge
  split
  · simp
  · and_intros <;> simp [forLanes_keeps]

/-- The blocks `captureFirst` does not touch. -/
@[simp] theorem captureFirst_frame (f : FaultSource) (s : State) :
    (captureFirst f s).pending = s.pending ∧
    (captureFirst f s).freeCount = s.freeCount ∧
    (captureFirst f s).resetHold = s.resetHold ∧
    (captureFirst f s).position = s.position ∧
    (captureFirst f s).line = s.line ∧
    (captureFirst f s).belt = s.belt ∧
    (captureFirst f s).infeed = s.infeed ∧
    (captureFirst f s).induction = s.induction ∧
    (captureFirst f s).tracking = s.tracking ∧
    (captureFirst f s).routes = s.routes ∧
    (captureFirst f s).cursors = s.cursors ∧
    (captureFirst f s).lanes = s.lanes ∧
    (captureFirst f s).events = s.events ∧
    (captureFirst f s).link = s.link := by
  simp [captureFirst]

/-- The blocks `reselectFirst` does not touch. -/
@[simp] theorem reselectFirst_frame (g : FaultSource → Bool) (s : State) :
    (reselectFirst g s).pending = s.pending ∧
    (reselectFirst g s).freeCount = s.freeCount ∧
    (reselectFirst g s).resetHold = s.resetHold ∧
    (reselectFirst g s).position = s.position ∧
    (reselectFirst g s).line = s.line ∧
    (reselectFirst g s).belt = s.belt ∧
    (reselectFirst g s).infeed = s.infeed ∧
    (reselectFirst g s).induction = s.induction ∧
    (reselectFirst g s).tracking = s.tracking ∧
    (reselectFirst g s).routes = s.routes ∧
    (reselectFirst g s).cursors = s.cursors ∧
    (reselectFirst g s).lanes = s.lanes ∧
    (reselectFirst g s).events = s.events ∧
    (reselectFirst g s).link = s.link := by
  unfold reselectFirst; (try dsimp only); repeat' split
  all_goals simp

/-- The blocks `reportDue` does not touch. -/
@[simp] theorem reportDue_frame (f : FaultSource) (s : State) :
    (reportDue f s).pending = s.pending ∧
    (reportDue f s).freeCount = s.freeCount ∧
    (reportDue f s).resetHold = s.resetHold ∧
    (reportDue f s).position = s.position ∧
    (reportDue f s).line = s.line ∧
    (reportDue f s).belt = s.belt ∧
    (reportDue f s).infeed = s.infeed ∧
    (reportDue f s).induction = s.induction ∧
    (reportDue f s).tracking = s.tracking ∧
    (reportDue f s).routes = s.routes ∧
    (reportDue f s).cursors = s.cursors ∧
    (reportDue f s).lanes = s.lanes ∧
    (reportDue f s).faults = s.faults ∧
    (reportDue f s).events = s.events := by
  simp [reportDue]

/-- The blocks `mapSources` does not touch. -/
@[simp] theorem mapSources_frame (set : BitVec 16) (g : SourceState → SourceState) (s : State) :
    (mapSources set g s).pending = s.pending ∧
    (mapSources set g s).freeCount = s.freeCount ∧
    (mapSources set g s).resetHold = s.resetHold ∧
    (mapSources set g s).position = s.position ∧
    (mapSources set g s).line = s.line ∧
    (mapSources set g s).belt = s.belt ∧
    (mapSources set g s).infeed = s.infeed ∧
    (mapSources set g s).induction = s.induction ∧
    (mapSources set g s).tracking = s.tracking ∧
    (mapSources set g s).routes = s.routes ∧
    (mapSources set g s).cursors = s.cursors ∧
    (mapSources set g s).lanes = s.lanes ∧
    (mapSources set g s).events = s.events ∧
    (mapSources set g s).link = s.link := by
  simp [mapSources]

/-- The blocks `fenceLanes` does not touch. -/
@[simp] theorem fenceLanes_frame (set : BitVec 16) (s : State) :
    (fenceLanes set s).pending = s.pending ∧
    (fenceLanes set s).freeCount = s.freeCount ∧
    (fenceLanes set s).resetHold = s.resetHold ∧
    (fenceLanes set s).position = s.position ∧
    (fenceLanes set s).line = s.line ∧
    (fenceLanes set s).belt = s.belt ∧
    (fenceLanes set s).infeed = s.infeed ∧
    (fenceLanes set s).induction = s.induction ∧
    (fenceLanes set s).routes = s.routes ∧
    (fenceLanes set s).cursors = s.cursors ∧
    (fenceLanes set s).faults = s.faults := by
  unfold fenceLanes
  and_intros <;>
    (apply forLanes_keeps; intro l t; split <;> simp)

/-- The blocks `recoverAction` does not touch. -/
@[simp] theorem recoverAction_frame (f : FaultSource) (s : State) :
    (recoverAction f s).pending = s.pending ∧
    (recoverAction f s).freeCount = s.freeCount ∧
    (recoverAction f s).resetHold = s.resetHold ∧
    (recoverAction f s).position = s.position ∧
    (recoverAction f s).line = s.line ∧
    (recoverAction f s).belt = s.belt ∧
    (recoverAction f s).induction = s.induction ∧
    (recoverAction f s).routes = s.routes ∧
    (recoverAction f s).cursors = s.cursors ∧
    (recoverAction f s).faults = s.faults := by
  unfold recoverAction; (try dsimp only); repeat' split
  all_goals simp

/-- The blocks `stopAction` does not touch. -/
@[simp] theorem stopAction_frame (s : State) :
    (stopAction s).pending = s.pending ∧
    (stopAction s).freeCount = s.freeCount ∧
    (stopAction s).resetHold = s.resetHold ∧
    (stopAction s).position = s.position ∧
    (stopAction s).line = s.line ∧
    (stopAction s).induction = s.induction ∧
    (stopAction s).routes = s.routes ∧
    (stopAction s).cursors = s.cursors ∧
    (stopAction s).faults = s.faults := by
  unfold stopAction
  and_intros <;>
    simp [forLanes_keeps]

/-- The blocks `takeAction` does not touch. -/
@[simp] theorem takeAction_frame (f : FaultSource) (s : State) :
    (takeAction f s).pending = s.pending ∧
    (takeAction f s).freeCount = s.freeCount ∧
    (takeAction f s).resetHold = s.resetHold ∧
    (takeAction f s).position = s.position ∧
    (takeAction f s).line = s.line ∧
    (takeAction f s).induction = s.induction ∧
    (takeAction f s).routes = s.routes ∧
    (takeAction f s).cursors = s.cursors ∧
    (takeAction f s).faults = s.faults := by
  unfold takeAction; repeat' split
  all_goals simp

/-- The blocks `actAndReport` does not touch. -/
@[simp] theorem actAndReport_frame (f : FaultSource) (s : State) :
    (actAndReport f s).pending = s.pending ∧
    (actAndReport f s).freeCount = s.freeCount ∧
    (actAndReport f s).resetHold = s.resetHold ∧
    (actAndReport f s).position = s.position ∧
    (actAndReport f s).line = s.line ∧
    (actAndReport f s).induction = s.induction ∧
    (actAndReport f s).routes = s.routes ∧
    (actAndReport f s).cursors = s.cursors := by
  simp [actAndReport]

/-- The blocks `latchOccurrence` does not touch. -/
@[simp] theorem latchOccurrence_frame (f : FaultSource) (lane : Option LaneId) (s : State) :
    (latchOccurrence f lane s).pending = s.pending ∧
    (latchOccurrence f lane s).freeCount = s.freeCount ∧
    (latchOccurrence f lane s).resetHold = s.resetHold ∧
    (latchOccurrence f lane s).position = s.position ∧
    (latchOccurrence f lane s).line = s.line ∧
    (latchOccurrence f lane s).induction = s.induction ∧
    (latchOccurrence f lane s).routes = s.routes ∧
    (latchOccurrence f lane s).cursors = s.cursors := by
  unfold latchOccurrence; (try dsimp only); repeat' split
  all_goals simp [State.setSource]

/-- The blocks `repeatOccurrence` does not touch. -/
@[simp] theorem repeatOccurrence_frame (f : FaultSource) (lane : Option LaneId) (s : State) :
    (repeatOccurrence f lane s).pending = s.pending ∧
    (repeatOccurrence f lane s).freeCount = s.freeCount ∧
    (repeatOccurrence f lane s).resetHold = s.resetHold ∧
    (repeatOccurrence f lane s).position = s.position ∧
    (repeatOccurrence f lane s).line = s.line ∧
    (repeatOccurrence f lane s).induction = s.induction ∧
    (repeatOccurrence f lane s).routes = s.routes ∧
    (repeatOccurrence f lane s).cursors = s.cursors := by
  unfold repeatOccurrence; (try dsimp only); repeat' split
  all_goals simp [State.setSource]

/-- The blocks `faultOccur` does not touch. -/
@[simp] theorem faultOccur_frame (f : FaultSource) (lane : Option LaneId) (s : State) :
    (faultOccur f lane s).pending = s.pending ∧
    (faultOccur f lane s).freeCount = s.freeCount ∧
    (faultOccur f lane s).resetHold = s.resetHold ∧
    (faultOccur f lane s).position = s.position ∧
    (faultOccur f lane s).line = s.line ∧
    (faultOccur f lane s).induction = s.induction ∧
    (faultOccur f lane s).routes = s.routes ∧
    (faultOccur f lane s).cursors = s.cursors := by
  unfold faultOccur; repeat' split
  all_goals simp

/-- The blocks `relatch` does not touch. -/
@[simp] theorem relatch_frame (f : FaultSource) (s : State) :
    (relatch f s).pending = s.pending ∧
    (relatch f s).freeCount = s.freeCount ∧
    (relatch f s).resetHold = s.resetHold ∧
    (relatch f s).position = s.position ∧
    (relatch f s).line = s.line ∧
    (relatch f s).induction = s.induction ∧
    (relatch f s).routes = s.routes ∧
    (relatch f s).cursors = s.cursors := by
  unfold relatch; split
  · split
    · and_intros <;>
      (apply forLanes_keeps; intro l t; split <;> simp)
    · simp
  · simp

/-- The blocks `relatchSet` does not touch. -/
@[simp] theorem relatchSet_frame (set : BitVec 16) (s : State) :
    (relatchSet set s).pending = s.pending ∧
    (relatchSet set s).freeCount = s.freeCount ∧
    (relatchSet set s).resetHold = s.resetHold ∧
    (relatchSet set s).position = s.position ∧
    (relatchSet set s).line = s.line ∧
    (relatchSet set s).induction = s.induction ∧
    (relatchSet set s).routes = s.routes ∧
    (relatchSet set s).cursors = s.cursors := by
  unfold relatchSet
  and_intros <;>
    (apply foldl_keeps; intro t x; split <;> simp)

/-- The blocks `takeDwellEnd` does not touch. -/
@[simp] theorem takeDwellEnd_frame (l : LaneId) (s : State) :
    (takeDwellEnd l s).pending = s.pending ∧
    (takeDwellEnd l s).freeCount = s.freeCount ∧
    (takeDwellEnd l s).resetHold = s.resetHold ∧
    (takeDwellEnd l s).position = s.position ∧
    (takeDwellEnd l s).line = s.line ∧
    (takeDwellEnd l s).belt = s.belt ∧
    (takeDwellEnd l s).infeed = s.infeed ∧
    (takeDwellEnd l s).induction = s.induction ∧
    (takeDwellEnd l s).tracking = s.tracking ∧
    (takeDwellEnd l s).routes = s.routes ∧
    (takeDwellEnd l s).cursors = s.cursors ∧
    (takeDwellEnd l s).faults = s.faults ∧
    (takeDwellEnd l s).link = s.link := by
  unfold takeDwellEnd; repeat' split
  all_goals simp

/-- The blocks `missEntry` does not touch. -/
@[simp] theorem missEntry_frame (l : LaneId) (e : Entry) (s : State) :
    (missEntry l e s).pending = s.pending ∧
    (missEntry l e s).freeCount = s.freeCount ∧
    (missEntry l e s).resetHold = s.resetHold ∧
    (missEntry l e s).position = s.position ∧
    (missEntry l e s).line = s.line ∧
    (missEntry l e s).induction = s.induction ∧
    (missEntry l e s).routes = s.routes ∧
    (missEntry l e s).cursors = s.cursors := by
  simp [missEntry]

/-- The blocks `takeWindowClose` does not touch. -/
@[simp] theorem takeWindowClose_frame (l : LaneId) (s : State) :
    (takeWindowClose l s).pending = s.pending ∧
    (takeWindowClose l s).freeCount = s.freeCount ∧
    (takeWindowClose l s).resetHold = s.resetHold ∧
    (takeWindowClose l s).position = s.position ∧
    (takeWindowClose l s).line = s.line ∧
    (takeWindowClose l s).induction = s.induction ∧
    (takeWindowClose l s).routes = s.routes ∧
    (takeWindowClose l s).cursors = s.cursors := by
  unfold takeWindowClose; repeat' split
  all_goals simp

/-- The blocks `creditEntry` does not touch. -/
@[simp] theorem creditEntry_frame (l : LaneId) (e : Entry) (stamp : Word) (s : State) :
    (creditEntry l e stamp s).pending = s.pending ∧
    (creditEntry l e stamp s).freeCount = s.freeCount ∧
    (creditEntry l e stamp s).resetHold = s.resetHold ∧
    (creditEntry l e stamp s).position = s.position ∧
    (creditEntry l e stamp s).line = s.line ∧
    (creditEntry l e stamp s).belt = s.belt ∧
    (creditEntry l e stamp s).infeed = s.infeed ∧
    (creditEntry l e stamp s).induction = s.induction ∧
    (creditEntry l e stamp s).routes = s.routes ∧
    (creditEntry l e stamp s).cursors = s.cursors ∧
    (creditEntry l e stamp s).faults = s.faults := by
  simp [creditEntry]

/-- The blocks `takeArmedClose` does not touch. -/
@[simp] theorem takeArmedClose_frame (l : LaneId) (e : Entry) (s : State) :
    (takeArmedClose l e s).pending = s.pending ∧
    (takeArmedClose l e s).freeCount = s.freeCount ∧
    (takeArmedClose l e s).resetHold = s.resetHold ∧
    (takeArmedClose l e s).position = s.position ∧
    (takeArmedClose l e s).line = s.line ∧
    (takeArmedClose l e s).induction = s.induction ∧
    (takeArmedClose l e s).routes = s.routes ∧
    (takeArmedClose l e s).cursors = s.cursors := by
  unfold takeArmedClose; split
  all_goals simp

/-- The blocks `fireEntry` does not touch. -/
@[simp] theorem fireEntry_frame (l : LaneId) (e : Entry) (s : State) :
    (fireEntry l e s).pending = s.pending ∧
    (fireEntry l e s).freeCount = s.freeCount ∧
    (fireEntry l e s).resetHold = s.resetHold ∧
    (fireEntry l e s).position = s.position ∧
    (fireEntry l e s).line = s.line ∧
    (fireEntry l e s).induction = s.induction ∧
    (fireEntry l e s).routes = s.routes ∧
    (fireEntry l e s).cursors = s.cursors := by
  simp [fireEntry]

/-- The blocks `overrunEntry` does not touch. -/
@[simp] theorem overrunEntry_frame (l : LaneId) (e : Entry) (s : State) :
    (overrunEntry l e s).pending = s.pending ∧
    (overrunEntry l e s).freeCount = s.freeCount ∧
    (overrunEntry l e s).resetHold = s.resetHold ∧
    (overrunEntry l e s).position = s.position ∧
    (overrunEntry l e s).line = s.line ∧
    (overrunEntry l e s).induction = s.induction ∧
    (overrunEntry l e s).routes = s.routes ∧
    (overrunEntry l e s).cursors = s.cursors := by
  simp [overrunEntry]

/-- The blocks `takeFire` does not touch. -/
@[simp] theorem takeFire_frame (l : LaneId) (s : State) :
    (takeFire l s).pending = s.pending ∧
    (takeFire l s).freeCount = s.freeCount ∧
    (takeFire l s).resetHold = s.resetHold ∧
    (takeFire l s).position = s.position ∧
    (takeFire l s).line = s.line ∧
    (takeFire l s).induction = s.induction ∧
    (takeFire l s).routes = s.routes ∧
    (takeFire l s).cursors = s.cursors := by
  unfold takeFire; repeat' split
  all_goals simp

/-- The blocks `takeArmedFire` does not touch. -/
@[simp] theorem takeArmedFire_frame (l : LaneId) (p : Word) (s : State) :
    (takeArmedFire l p s).pending = s.pending ∧
    (takeArmedFire l p s).freeCount = s.freeCount ∧
    (takeArmedFire l p s).resetHold = s.resetHold ∧
    (takeArmedFire l p s).position = s.position ∧
    (takeArmedFire l p s).line = s.line ∧
    (takeArmedFire l p s).induction = s.induction ∧
    (takeArmedFire l p s).routes = s.routes ∧
    (takeArmedFire l p s).cursors = s.cursors := by
  unfold takeArmedFire; split
  · and_intros <;>
    (apply foldl_keeps; intro t x; simp)
  · simp

/-- The blocks `countHit` does not touch. -/
@[simp] theorem countHit_frame (r : Option (Fin 32)) (s : State) :
    (countHit r s).pending = s.pending ∧
    (countHit r s).freeCount = s.freeCount ∧
    (countHit r s).resetHold = s.resetHold ∧
    (countHit r s).position = s.position ∧
    (countHit r s).line = s.line ∧
    (countHit r s).belt = s.belt ∧
    (countHit r s).infeed = s.infeed ∧
    (countHit r s).induction = s.induction ∧
    (countHit r s).tracking = s.tracking ∧
    (countHit r s).cursors = s.cursors ∧
    (countHit r s).lanes = s.lanes ∧
    (countHit r s).faults = s.faults ∧
    (countHit r s).events = s.events ∧
    (countHit r s).link = s.link := by
  unfold countHit; (try dsimp only); repeat' split
  all_goals simp

/-- The blocks `moveCursor` does not touch. -/
@[simp] theorem moveCursor_frame (g : Option (Fin 8)) (l : LaneId) (s : State) :
    (moveCursor g l s).pending = s.pending ∧
    (moveCursor g l s).freeCount = s.freeCount ∧
    (moveCursor g l s).resetHold = s.resetHold ∧
    (moveCursor g l s).position = s.position ∧
    (moveCursor g l s).line = s.line ∧
    (moveCursor g l s).belt = s.belt ∧
    (moveCursor g l s).infeed = s.infeed ∧
    (moveCursor g l s).induction = s.induction ∧
    (moveCursor g l s).tracking = s.tracking ∧
    (moveCursor g l s).routes = s.routes ∧
    (moveCursor g l s).lanes = s.lanes ∧
    (moveCursor g l s).faults = s.faults ∧
    (moveCursor g l s).events = s.events ∧
    (moveCursor g l s).link = s.link := by
  unfold moveCursor; repeat' split
  all_goals simp

/-- The blocks `advanceDecision` does not touch. -/
@[simp] theorem advanceDecision_frame (s : State) :
    (advanceDecision s).pending = s.pending ∧
    (advanceDecision s).freeCount = s.freeCount ∧
    (advanceDecision s).resetHold = s.resetHold ∧
    (advanceDecision s).position = s.position ∧
    (advanceDecision s).line = s.line ∧
    (advanceDecision s).belt = s.belt ∧
    (advanceDecision s).infeed = s.infeed ∧
    (advanceDecision s).induction = s.induction ∧
    (advanceDecision s).routes = s.routes ∧
    (advanceDecision s).cursors = s.cursors ∧
    (advanceDecision s).lanes = s.lanes ∧
    (advanceDecision s).faults = s.faults ∧
    (advanceDecision s).events = s.events ∧
    (advanceDecision s).link = s.link := by
  simp [advanceDecision]

/-- The blocks `recordPlacement` does not touch. -/
@[simp] theorem recordPlacement_frame (item : Nat) (lead : Word) (p : Placement) (s : State) :
    (recordPlacement item lead p s).pending = s.pending ∧
    (recordPlacement item lead p s).freeCount = s.freeCount ∧
    (recordPlacement item lead p s).resetHold = s.resetHold ∧
    (recordPlacement item lead p s).position = s.position ∧
    (recordPlacement item lead p s).line = s.line ∧
    (recordPlacement item lead p s).induction = s.induction ∧
    (recordPlacement item lead p s).routes = s.routes := by
  unfold recordPlacement; (try dsimp only); repeat' split
  all_goals simp

/-- The blocks `decideItem` does not touch. -/
@[simp] theorem decideItem_frame (r : Record) (s : State) :
    (decideItem r s).pending = s.pending ∧
    (decideItem r s).freeCount = s.freeCount ∧
    (decideItem r s).resetHold = s.resetHold ∧
    (decideItem r s).position = s.position ∧
    (decideItem r s).line = s.line ∧
    (decideItem r s).induction = s.induction := by
  simp [decideItem]

/-- The blocks `decideOldest` does not touch. -/
@[simp] theorem decideOldest_frame (s : State) :
    (decideOldest s).pending = s.pending ∧
    (decideOldest s).freeCount = s.freeCount ∧
    (decideOldest s).resetHold = s.resetHold ∧
    (decideOldest s).position = s.position ∧
    (decideOldest s).line = s.line ∧
    (decideOldest s).induction = s.induction := by
  unfold decideOldest; repeat' split
  all_goals simp

/-- The blocks `takeDueDecisions` does not touch. -/
@[simp] theorem takeDueDecisions_frame (s : State) :
    (takeDueDecisions s).pending = s.pending ∧
    (takeDueDecisions s).freeCount = s.freeCount ∧
    (takeDueDecisions s).resetHold = s.resetHold ∧
    (takeDueDecisions s).position = s.position ∧
    (takeDueDecisions s).line = s.line ∧
    (takeDueDecisions s).induction = s.induction := by
  unfold takeDueDecisions
  refine ⟨?_, ?_, ?_, ?_, ?_, ?_⟩ <;>
    (apply foldl_keeps; intro t x; simp)

/-- The blocks `takeDecision` does not touch. -/
@[simp] theorem takeDecision_frame (item : Nat) (s : State) :
    (takeDecision item s).pending = s.pending ∧
    (takeDecision item s).freeCount = s.freeCount ∧
    (takeDecision item s).resetHold = s.resetHold ∧
    (takeDecision item s).position = s.position ∧
    (takeDecision item s).line = s.line ∧
    (takeDecision item s).induction = s.induction := by
  simp [takeDecision]

/-- The blocks `takeJam` does not touch. -/
@[simp] theorem takeJam_frame (s : State) :
    (takeJam s).pending = s.pending ∧
    (takeJam s).freeCount = s.freeCount ∧
    (takeJam s).resetHold = s.resetHold ∧
    (takeJam s).position = s.position ∧
    (takeJam s).line = s.line ∧
    (takeJam s).routes = s.routes ∧
    (takeJam s).cursors = s.cursors := by
  simp [takeJam]

/-- The blocks `armJam` does not touch. -/
@[simp] theorem armJam_frame (p : Word) (s : State) :
    (armJam p s).pending = s.pending ∧
    (armJam p s).freeCount = s.freeCount ∧
    (armJam p s).resetHold = s.resetHold ∧
    (armJam p s).position = s.position ∧
    (armJam p s).line = s.line ∧
    (armJam p s).routes = s.routes ∧
    (armJam p s).cursors = s.cursors := by
  unfold armJam; (try dsimp only); repeat' split
  all_goals simp

/-- The blocks `setPrevTrail` does not touch. -/
@[simp] theorem setPrevTrail_frame (stamp : Word) (s : State) :
    (setPrevTrail stamp s).pending = s.pending ∧
    (setPrevTrail stamp s).freeCount = s.freeCount ∧
    (setPrevTrail stamp s).resetHold = s.resetHold ∧
    (setPrevTrail stamp s).position = s.position ∧
    (setPrevTrail stamp s).line = s.line ∧
    (setPrevTrail stamp s).belt = s.belt ∧
    (setPrevTrail stamp s).infeed = s.infeed ∧
    (setPrevTrail stamp s).tracking = s.tracking ∧
    (setPrevTrail stamp s).routes = s.routes ∧
    (setPrevTrail stamp s).cursors = s.cursors ∧
    (setPrevTrail stamp s).lanes = s.lanes ∧
    (setPrevTrail stamp s).faults = s.faults ∧
    (setPrevTrail stamp s).events = s.events ∧
    (setPrevTrail stamp s).link = s.link := by
  unfold setPrevTrail; (try dsimp only); repeat' split
  all_goals simp

/-- The blocks `dropPrevTrail` does not touch. -/
@[simp] theorem dropPrevTrail_frame (s : State) :
    (dropPrevTrail s).pending = s.pending ∧
    (dropPrevTrail s).freeCount = s.freeCount ∧
    (dropPrevTrail s).resetHold = s.resetHold ∧
    (dropPrevTrail s).position = s.position ∧
    (dropPrevTrail s).line = s.line ∧
    (dropPrevTrail s).belt = s.belt ∧
    (dropPrevTrail s).infeed = s.infeed ∧
    (dropPrevTrail s).tracking = s.tracking ∧
    (dropPrevTrail s).routes = s.routes ∧
    (dropPrevTrail s).cursors = s.cursors ∧
    (dropPrevTrail s).lanes = s.lanes ∧
    (dropPrevTrail s).faults = s.faults ∧
    (dropPrevTrail s).events = s.events ∧
    (dropPrevTrail s).link = s.link := by
  simp [dropPrevTrail]

/-- The blocks `setGapRelease` does not touch. -/
@[simp] theorem setGapRelease_frame (stamp : Word) (s : State) :
    (setGapRelease stamp s).pending = s.pending ∧
    (setGapRelease stamp s).freeCount = s.freeCount ∧
    (setGapRelease stamp s).resetHold = s.resetHold ∧
    (setGapRelease stamp s).position = s.position ∧
    (setGapRelease stamp s).line = s.line ∧
    (setGapRelease stamp s).belt = s.belt ∧
    (setGapRelease stamp s).induction = s.induction ∧
    (setGapRelease stamp s).tracking = s.tracking ∧
    (setGapRelease stamp s).routes = s.routes ∧
    (setGapRelease stamp s).cursors = s.cursors ∧
    (setGapRelease stamp s).lanes = s.lanes ∧
    (setGapRelease stamp s).faults = s.faults ∧
    (setGapRelease stamp s).events = s.events ∧
    (setGapRelease stamp s).link = s.link := by
  simp [setGapRelease]

/-- The blocks `claimRecord` does not touch. -/
@[simp] theorem claimRecord_frame (lead stamp : Word) (n : Nat) (sg : Bool) (s : State) :
    (claimRecord lead stamp n sg s).pending = s.pending ∧
    (claimRecord lead stamp n sg s).freeCount = s.freeCount ∧
    (claimRecord lead stamp n sg s).resetHold = s.resetHold ∧
    (claimRecord lead stamp n sg s).position = s.position ∧
    (claimRecord lead stamp n sg s).line = s.line ∧
    (claimRecord lead stamp n sg s).belt = s.belt ∧
    (claimRecord lead stamp n sg s).infeed = s.infeed ∧
    (claimRecord lead stamp n sg s).routes = s.routes ∧
    (claimRecord lead stamp n sg s).cursors = s.cursors ∧
    (claimRecord lead stamp n sg s).lanes = s.lanes ∧
    (claimRecord lead stamp n sg s).faults = s.faults ∧
    (claimRecord lead stamp n sg s).events = s.events := by
  simp [claimRecord]

/-- The blocks `induct` does not touch. -/
@[simp] theorem induct_frame (lead stamp : Word) (n : Nat) (sg : Bool) (s : State) :
    (induct lead stamp n sg s).pending = s.pending ∧
    (induct lead stamp n sg s).freeCount = s.freeCount ∧
    (induct lead stamp n sg s).resetHold = s.resetHold ∧
    (induct lead stamp n sg s).position = s.position ∧
    (induct lead stamp n sg s).line = s.line := by
  unfold induct; (try dsimp only); repeat' split
  all_goals simp

/-- The blocks `checkPool` does not touch. -/
@[simp] theorem checkPool_frame (lead stamp : Word) (n : Nat) (sg : Bool) (s : State) :
    (checkPool lead stamp n sg s).pending = s.pending ∧
    (checkPool lead stamp n sg s).freeCount = s.freeCount ∧
    (checkPool lead stamp n sg s).resetHold = s.resetHold ∧
    (checkPool lead stamp n sg s).position = s.position ∧
    (checkPool lead stamp n sg s).line = s.line := by
  unfold checkPool; repeat' split
  all_goals simp

/-- The blocks `checkGap` does not touch. -/
@[simp] theorem checkGap_frame (lead stamp : Word) (n : Nat) (s : State) :
    (checkGap lead stamp n s).pending = s.pending ∧
    (checkGap lead stamp n s).freeCount = s.freeCount ∧
    (checkGap lead stamp n s).resetHold = s.resetHold ∧
    (checkGap lead stamp n s).position = s.position ∧
    (checkGap lead stamp n s).line = s.line := by
  unfold checkGap; repeat' split
  all_goals simp

/-- The blocks `checkLength` does not touch. -/
@[simp] theorem checkLength_frame (lead stamp : Word) (s : State) :
    (checkLength lead stamp s).pending = s.pending ∧
    (checkLength lead stamp s).freeCount = s.freeCount ∧
    (checkLength lead stamp s).resetHold = s.resetHold ∧
    (checkLength lead stamp s).position = s.position ∧
    (checkLength lead stamp s).line = s.line := by
  unfold checkLength; (try dsimp only); repeat' split
  all_goals simp

/-- The blocks `endBlockage` does not touch. -/
@[simp] theorem endBlockage_frame (s : State) :
    (endBlockage s).pending = s.pending ∧
    (endBlockage s).freeCount = s.freeCount ∧
    (endBlockage s).resetHold = s.resetHold ∧
    (endBlockage s).position = s.position ∧
    (endBlockage s).line = s.line ∧
    (endBlockage s).belt = s.belt ∧
    (endBlockage s).infeed = s.infeed ∧
    (endBlockage s).tracking = s.tracking ∧
    (endBlockage s).routes = s.routes ∧
    (endBlockage s).cursors = s.cursors ∧
    (endBlockage s).lanes = s.lanes ∧
    (endBlockage s).faults = s.faults ∧
    (endBlockage s).events = s.events ∧
    (endBlockage s).link = s.link := by
  simp [endBlockage]

/-- The blocks `entryBlocked` does not touch. -/
@[simp] theorem entryBlocked_frame (stamp : Word) (s : State) :
    (entryBlocked stamp s).pending = s.pending ∧
    (entryBlocked stamp s).freeCount = s.freeCount ∧
    (entryBlocked stamp s).resetHold = s.resetHold ∧
    (entryBlocked stamp s).position = s.position ∧
    (entryBlocked stamp s).line = s.line ∧
    (entryBlocked stamp s).routes = s.routes ∧
    (entryBlocked stamp s).cursors = s.cursors := by
  unfold entryBlocked; (try dsimp only); repeat' split
  all_goals simp

/-- The blocks `endMeasurement` does not touch. -/
@[simp] theorem endMeasurement_frame (stamp : Word) (s : State) :
    (endMeasurement stamp s).pending = s.pending ∧
    (endMeasurement stamp s).freeCount = s.freeCount ∧
    (endMeasurement stamp s).resetHold = s.resetHold ∧
    (endMeasurement stamp s).position = s.position ∧
    (endMeasurement stamp s).line = s.line := by
  unfold endMeasurement; split
  all_goals simp

/-- The blocks `entryClear` does not touch. -/
@[simp] theorem entryClear_frame (stamp : Word) (s : State) :
    (entryClear stamp s).pending = s.pending ∧
    (entryClear stamp s).freeCount = s.freeCount ∧
    (entryClear stamp s).resetHold = s.resetHold ∧
    (entryClear stamp s).position = s.position ∧
    (entryClear stamp s).line = s.line := by
  simp [entryClear]

/-- The blocks `confirmEdge` does not touch. -/
@[simp] theorem confirmEdge_frame (l : LaneId) (b : Bool) (stamp : Word) (s : State) :
    (confirmEdge l b stamp s).pending = s.pending ∧
    (confirmEdge l b stamp s).freeCount = s.freeCount ∧
    (confirmEdge l b stamp s).resetHold = s.resetHold ∧
    (confirmEdge l b stamp s).position = s.position ∧
    (confirmEdge l b stamp s).line = s.line ∧
    (confirmEdge l b stamp s).induction = s.induction ∧
    (confirmEdge l b stamp s).routes = s.routes ∧
    (confirmEdge l b stamp s).cursors = s.cursors := by
  unfold confirmEdge; (try dsimp only); repeat' split
  all_goals simp

/-- The blocks `becomeFull` does not touch. -/
@[simp] theorem becomeFull_frame (l : LaneId) (s : State) :
    (becomeFull l s).pending = s.pending ∧
    (becomeFull l s).freeCount = s.freeCount ∧
    (becomeFull l s).resetHold = s.resetHold ∧
    (becomeFull l s).position = s.position ∧
    (becomeFull l s).line = s.line ∧
    (becomeFull l s).belt = s.belt ∧
    (becomeFull l s).infeed = s.infeed ∧
    (becomeFull l s).induction = s.induction ∧
    (becomeFull l s).tracking = s.tracking ∧
    (becomeFull l s).routes = s.routes ∧
    (becomeFull l s).cursors = s.cursors ∧
    (becomeFull l s).faults = s.faults ∧
    (becomeFull l s).link = s.link := by
  simp [becomeFull]

/-- The blocks `fullEdge` does not touch. -/
@[simp] theorem fullEdge_frame (l : LaneId) (b : Bool) (stamp : Word) (s : State) :
    (fullEdge l b stamp s).pending = s.pending ∧
    (fullEdge l b stamp s).freeCount = s.freeCount ∧
    (fullEdge l b stamp s).resetHold = s.resetHold ∧
    (fullEdge l b stamp s).position = s.position ∧
    (fullEdge l b stamp s).line = s.line ∧
    (fullEdge l b stamp s).belt = s.belt ∧
    (fullEdge l b stamp s).infeed = s.infeed ∧
    (fullEdge l b stamp s).induction = s.induction ∧
    (fullEdge l b stamp s).tracking = s.tracking ∧
    (fullEdge l b stamp s).routes = s.routes ∧
    (fullEdge l b stamp s).cursors = s.cursors ∧
    (fullEdge l b stamp s).faults = s.faults ∧
    (fullEdge l b stamp s).link = s.link := by
  unfold fullEdge; (try dsimp only); repeat' split
  all_goals simp

/-- The blocks `estopEdge` does not touch. -/
@[simp] theorem estopEdge_frame (b : Bool) (s : State) :
    (estopEdge b s).pending = s.pending ∧
    (estopEdge b s).freeCount = s.freeCount ∧
    (estopEdge b s).resetHold = s.resetHold ∧
    (estopEdge b s).position = s.position ∧
    (estopEdge b s).line = s.line ∧
    (estopEdge b s).induction = s.induction ∧
    (estopEdge b s).routes = s.routes ∧
    (estopEdge b s).cursors = s.cursors := by
  unfold estopEdge; repeat' split
  all_goals simp

/-- The blocks `handEdge` does not touch. -/
@[simp] theorem handEdge_frame (i : SensorInput) (b : Bool) (stamp : Word) (s : State) :
    (handEdge i b stamp s).pending = s.pending ∧
    (handEdge i b stamp s).freeCount = s.freeCount ∧
    (handEdge i b stamp s).resetHold = s.resetHold ∧
    (handEdge i b stamp s).position = s.position ∧
    (handEdge i b stamp s).line = s.line := by
  unfold handEdge; repeat' split
  all_goals simp

/-- The blocks `acceptEdge` does not touch. -/
@[simp] theorem acceptEdge_frame (i : SensorInput) (stamp : Word) (s : State) :
    (acceptEdge i stamp s).pending = s.pending ∧
    (acceptEdge i stamp s).freeCount = s.freeCount ∧
    (acceptEdge i stamp s).resetHold = s.resetHold ∧
    (acceptEdge i stamp s).line = s.line := by
  simp [acceptEdge, State.setSensor]

/-- The blocks `acceptDue` does not touch. -/
@[simp] theorem acceptDue_frame (i : SensorInput) (s : State) :
    (acceptDue i s).pending = s.pending ∧
    (acceptDue i s).freeCount = s.freeCount ∧
    (acceptDue i s).resetHold = s.resetHold ∧
    (acceptDue i s).line = s.line := by
  unfold acceptDue; repeat' split
  all_goals simp

/-- The blocks `acceptAll` does not touch. -/
@[simp] theorem acceptAll_frame (s : State) :
    (acceptAll s).pending = s.pending ∧
    (acceptAll s).freeCount = s.freeCount ∧
    (acceptAll s).resetHold = s.resetHold ∧
    (acceptAll s).line = s.line := by
  unfold acceptAll
  refine ⟨?_, ?_, ?_, ?_⟩ <;>
    (apply foldl_keeps; intro t i; split <;> simp)

/-- The blocks `rearmJam` does not touch. -/
@[simp] theorem rearmJam_frame (s : State) :
    (rearmJam s).pending = s.pending ∧
    (rearmJam s).freeCount = s.freeCount ∧
    (rearmJam s).resetHold = s.resetHold ∧
    (rearmJam s).position = s.position ∧
    (rearmJam s).line = s.line ∧
    (rearmJam s).routes = s.routes ∧
    (rearmJam s).cursors = s.cursors := by
  unfold rearmJam; repeat' split
  all_goals simp

end Sys2Proof.Machine
end

