-- ==== Sys2Proof/Laws/Access.lean ====
section
/-! SUPPORT. Reading one lane, one fault source or one sensor input after writing one, and reading through
a state whose block is another's. -/

namespace Sys2Proof.Machine

/-! ## One element of a table -/

@[simp] theorem setLane_lane_same (s : State) (l : LaneId) (u : LaneUnit) :
    (s.setLane l u).lane l = u := by
  simp [State.setLane, State.lane]

theorem setLane_lane_ne (s : State) {l m : LaneId} (u : LaneUnit) (h : m ≠ l) :
    (s.setLane l u).lane m = s.lane m := by
  have h' : l.val ≠ m.val := fun e => h (Fin.ext e.symm)
  simp [State.setLane, State.lane, h']

theorem setLane_lane (s : State) (l m : LaneId) (u : LaneUnit) :
    (s.setLane l u).lane m = if m = l then u else s.lane m := by
  split
  · subst_vars; simp
  · exact setLane_lane_ne s u ‹_›

@[simp] theorem modifyLane_lane_same (s : State) (l : LaneId) (f : LaneUnit → LaneUnit) :
    (modifyLane l f s).lane l = f (s.lane l) := setLane_lane_same ..

theorem modifyLane_lane (s : State) (l m : LaneId) (f : LaneUnit → LaneUnit) :
    (modifyLane l f s).lane m = if m = l then f (s.lane l) else s.lane m := setLane_lane ..

theorem FaultSource.idx_inj {f g : FaultSource} (h : f.idx = g.idx) : f = g := by
  revert h; cases f <;> cases g <;> decide

theorem FaultSource.mem_all (f : FaultSource) : f ∈ FaultSource.all := by cases f <;> decide

@[simp] theorem setSource_source_same (s : State) (f : FaultSource) (x : SourceState) :
    (s.setSource f x).source f = x := by
  simp [State.setSource, State.source]

theorem setSource_source (s : State) (f g : FaultSource) (x : SourceState) :
    (s.setSource f x).source g = if g = f then x else s.source g := by
  split
  · subst_vars; simp
  · have h' : f.idx.val ≠ g.idx.val := fun e => ‹¬ g = f› (FaultSource.idx_inj (Fin.ext e.symm))
    simp [State.setSource, State.source, h']

theorem SensorInput.idx_inj {i j : SensorInput} (h : i.idx = j.idx) : i = j := by
  have h' := congrArg Fin.val h
  cases i <;> cases j <;> simp only [SensorInput.idx] at h' <;>
    first
      | rfl
      | (congr 1; exact Fin.ext (by omega))
      | (exfalso; omega)

@[simp] theorem setSensor_sensor_same (s : State) (i : SensorInput) (x : SensorState) :
    (s.setSensor i x).sensor i = x := by
  simp [State.setSensor, State.sensor]

theorem setSensor_sensor (s : State) (i j : SensorInput) (x : SensorState) :
    (s.setSensor i x).sensor j = if j = i then x else s.sensor j := by
  split
  · subst_vars; simp
  · have h' : i.idx.val ≠ j.idx.val := fun e => ‹¬ j = i› (SensorInput.idx_inj (Fin.ext e.symm))
    simp [State.setSensor, State.sensor, h']

/-! ## The statements' words for a write -/

theorem withLane_eq (s : State) (l : LaneId) (u : LaneUnit) : s.withLane l u = s.setLane l u := rfl

theorem withSource_eq (s : State) (f : FaultSource) (x : SourceState) :
    s.withSource f x = s.setSource f x := rfl

theorem withSensor_eq (s : State) (i : SensorInput) (x : SensorState) :
    s.withSensor i x = s.setSensor i x := rfl

theorem withList_eq (s : State) (list : List Record) :
    s.withList list = s.setTracking { s.tracking with list := list } := rfl

/-! ## Reading through an equal block -/

theorem lane_congr {s t : State} (h : t.lanes = s.lanes) (l : LaneId) : t.lane l = s.lane l := by
  simp [State.lane, h]

theorem source_congr {s t : State} (h : t.faults = s.faults) (f : FaultSource) :
    t.source f = s.source f := by
  simp [State.source, h]

theorem sensor_congr {s t : State} (h : t.position = s.position) (i : SensorInput) :
    t.sensor i = s.sensor i := by
  simp [State.sensor, h]

theorem tracked_congr {s t : State} (h : t.tracking = s.tracking) (item : Nat) :
    t.tracked item = s.tracked item := by
  simp [State.tracked, h]

/-- Two states are equal when every block is. -/
theorem State.ext_blocks {s t : State} (h1 : s.pending = t.pending) (h2 : s.freeCount = t.freeCount)
    (h3 : s.resetHold = t.resetHold) (h4 : s.position = t.position) (h5 : s.line = t.line)
    (h6 : s.belt = t.belt) (h7 : s.infeed = t.infeed) (h8 : s.induction = t.induction)
    (h9 : s.tracking = t.tracking) (h10 : s.routes = t.routes) (h11 : s.cursors = t.cursors)
    (h12 : s.lanes = t.lanes) (h13 : s.faults = t.faults) (h14 : s.events = t.events)
    (h15 : s.link = t.link) : s = t := by
  cases s; cases t; simp_all

end Sys2Proof.Machine
end

