-- ==== Sys2Proof/Laws/Commands.lean ====
section
/-! SUPPORT. What a host command does when its frame stands ready at the head of the queue: the guard, the
payload and the answer, so that a proof about a command starts at its effect. -/

namespace Sys2Proof.Machine

theorem replyTo_eq_answered (f : Frame) (st : Status) (b : List Byte) (s : State) :
    replyTo f st b s = s.answered f st b := rfl

theorem replyOk_eq_answered (f : Frame) (b : List Byte) (s : State) :
    replyOk f b s = s.answered f .ok b := rfl

theorem Ready.running {s : State} {f : Frame} (h : s.Ready f) : s.running = true := by
  simp [State.running, h.1]

theorem Ready.commands {s : State} {f : Frame} (h : s.Ready f) :
    ∃ rest, s.link.commands = f :: rest := by
  have := h.2.2
  cases hc : s.link.commands with
  | nil => simp [hc] at this
  | cons a rest => simp [hc] at this; exact ⟨rest, by rw [this]⟩

/-- A ready frame of which `p` holds is taken. -/
theorem onFrame_ready {s : State} {f : Frame} (h : s.Ready f) (p : Frame → Bool)
    (body : Frame → State → State) (hp : p f = true) : onFrame p body s = body f s.taken := by
  obtain ⟨rest, hc⟩ := Ready.commands h
  have hr := Ready.running h
  have hl := h.2.1
  simp [onFrame, State.canTake, hr, hc, hp, State.placesHeld, Config.interpreterPlaces, hl,
    takeHead, State.setLink, State.taken]

/-- A ready frame of which `p` does not hold is left where it is. -/
theorem onFrame_other {s : State} {f : Frame} (h : s.Ready f) (p : Frame → Bool)
    (body : Frame → State → State) (hp : p f = false) : onFrame p body s = s := by
  obtain ⟨rest, hc⟩ := Ready.commands h
  simp [onFrame, State.canTake, hc, hp]

/-- A ready frame with a legal payload is applied. -/
theorem onCommand_ready {α : Type} {s : State} {f : Frame} (h : s.Ready f) {k : Byte}
    {parse : List Byte → Option α} {body : α → Frame → State → State} {x : α} (hk : f.kind = k)
    (hx : parse f.payload = some x) : onCommand k parse body s = body x f s.taken := by
  rw [onCommand, onFrame_ready h _ _ (by simp [isKind, hk])]
  simp [withArgs, hx]

/-- A ready frame with an illegal payload is answered BAD_ARG. -/
theorem onCommand_badArg {α : Type} {s : State} {f : Frame} (h : s.Ready f) {k : Byte}
    {parse : List Byte → Option α} {body : α → Frame → State → State} (hk : f.kind = k)
    (hx : parse f.payload = none) :
    onCommand k parse body s = s.taken.answered f .badArg [] := by
  rw [onCommand, onFrame_ready h _ _ (by simp [isKind, hk])]
  simp [withArgs, hx, replyTo_eq_answered]

/-- The blocks that taking a frame leaves. -/
@[simp] theorem taken_blocks (s : State) :
    s.taken.pending = s.pending ∧ s.taken.freeCount = s.freeCount ∧
    s.taken.resetHold = s.resetHold ∧ s.taken.position = s.position ∧ s.taken.line = s.line ∧
    s.taken.belt = s.belt ∧ s.taken.infeed = s.infeed ∧ s.taken.induction = s.induction ∧
    s.taken.tracking = s.tracking ∧ s.taken.routes = s.routes ∧ s.taken.cursors = s.cursors ∧
    s.taken.lanes = s.lanes ∧ s.taken.faults = s.faults ∧ s.taken.events = s.events := by
  simp [State.taken]

@[simp] theorem taken_lane (s : State) (l : LaneId) : s.taken.lane l = s.lane l := rfl
@[simp] theorem taken_source (s : State) (f : FaultSource) : s.taken.source f = s.source f := rfl
@[simp] theorem taken_sensor (s : State) (i : SensorInput) : s.taken.sensor i = s.sensor i := rfl
@[simp] theorem taken_accepted (s : State) (i : SensorInput) : s.taken.accepted i = s.accepted i := rfl
@[simp] theorem taken_tracked (s : State) (n : Nat) : s.taken.tracked n = s.tracked n := rfl
@[simp] theorem taken_stoppingFault (s : State) : s.taken.stoppingFault = s.stoppingFault := rfl
@[simp] theorem taken_infeedChoice (s : State) : s.taken.infeedChoice = s.infeedChoice := rfl
@[simp] theorem taken_members (s : State) (g : Fin 8) : s.taken.members g = s.members g := rfl

end Sys2Proof.Machine
end

