-- ==== Sys2Proof/Laws/Shared.lean ====
section
/-! SUPPORT. What the shared operations do to the blocks they touch: the infeed's choice, the fault report
queue, lanes in turn, records of the tracking list, and the purge. -/

namespace Sys2Proof.Machine

/-! ## The infeed's choice -/

/-- The choice writes the infeed state and nothing else of the infeed. -/
theorem chooseInfeed_infeed (s : State) :
    (chooseInfeed s).infeed = { s.infeed with state := s.infeedChoice } := by
  unfold chooseInfeed; dsimp only; split
  · simp
  · split <;> simp

/-- The choice does not bear on what is chosen. -/
theorem infeedChoice_congr {s t : State} (h1 : t.infeed.enable = s.infeed.enable)
    (h2 : t.infeed.holdPool = s.infeed.holdPool) (h3 : t.infeed.holdJam = s.infeed.holdJam)
    (h4 : t.infeed.gapRelease.isSome = s.infeed.gapRelease.isSome) (h5 : t.faults = s.faults)
    (h6 : t.tracking.list.length + t.tracking.fatePending.length =
      s.tracking.list.length + s.tracking.fatePending.length)
    (h7 : t.line.reserve = s.line.reserve) (h8 : t.belt.state = s.belt.state) :
    t.infeedChoice = s.infeedChoice := by
  simp [State.infeedChoice, State.stoppingFault, State.freeRecords, source_congr h5, h1, h2, h3,
    h4, h6, h7, h8]

theorem chooseInfeed_choice (s : State) : (chooseInfeed s).infeedChoice = s.infeedChoice := by
  apply infeedChoice_congr <;> simp [chooseInfeed_infeed]

/-- After the choice the infeed is in the chosen state. -/
theorem chooseInfeed_chosen (s : State) : (chooseInfeed s).InfeedChosen := by
  simp [State.InfeedChosen, chooseInfeed_choice, chooseInfeed_infeed]

/-- Where the infeed is in its state already, the choice changes nothing. -/
theorem chooseInfeed_of_chosen {s : State} (h : s.InfeedChosen) : chooseInfeed s = s := by
  unfold State.InfeedChosen at h
  unfold chooseInfeed
  simp only [← h]
  split
  · simp_all
  · split
    · simp_all
    · cases s; simp [State.setInfeed]

/-! ## The fault report queue -/

theorem placeFaultReport_new (r : FaultReport) (q : List FaultReport)
    (h : ∀ x ∈ q, x.source ≠ r.source) : placeFaultReport r q = q ++ [r] := by
  induction q with
  | nil => rfl
  | cons a q ih =>
    simp only [List.mem_cons, forall_eq_or_imp] at h
    simp [placeFaultReport, h.1, ih h.2]

theorem placeFaultReport_old (r old : FaultReport) (before after : List FaultReport)
    (ho : old.source = r.source) (h : ∀ x ∈ before, x.source ≠ r.source) :
    placeFaultReport r (before ++ old :: after) = before ++ r :: after := by
  induction before with
  | nil => simp [placeFaultReport, ho]
  | cons a q ih =>
    simp only [List.mem_cons, forall_eq_or_imp] at h
    simp [placeFaultReport, h.1, ih h.2]

theorem mem_placeFaultReport (r : FaultReport) (q : List FaultReport) : r ∈ placeFaultReport r q := by
  induction q with
  | nil => simp [placeFaultReport]
  | cons a q ih => unfold placeFaultReport; split <;> simp [ih]

/-! ## Lanes in turn -/

theorem foldl_lane (f : LaneId → State → State) (g : LaneId → LaneUnit → LaneUnit)
    (h : ∀ l t m, (f l t).lane m = if m = l then g l (t.lane l) else t.lane m)
    (ls : List LaneId) (hn : ls.Nodup) (s : State) (l : LaneId) :
    (ls.foldl (fun t l => f l t) s).lane l = if l ∈ ls then g l (s.lane l) else s.lane l := by
  induction ls generalizing s with
  | nil => simp
  | cons a ls ih =>
    rw [List.nodup_cons] at hn
    rw [List.foldl_cons, ih hn.2, h]
    by_cases hl : l = a
    · subst hl; simp [hn.1]
    · simp [hl]

/-- Where the turn of each lane changes that lane alone, by `g`, so does the whole. -/
theorem forLanes_lane (f : LaneId → State → State) (g : LaneId → LaneUnit → LaneUnit)
    (h : ∀ l t m, (f l t).lane m = if m = l then g l (t.lane l) else t.lane m) (s : State)
    (l : LaneId) : (forLanes f s).lane l = g l (s.lane l) := by
  rw [forLanes, foldl_lane f g h allLanes (List.nodup_finRange 16)]
  simp [allLanes]

/-- An event changes no lane. -/
@[simp] theorem handEvent_lane (p : EventPair) (pos : Word) (s : State) (l : LaneId) :
    (handEvent p pos s).lane l = s.lane l := lane_congr (by simp) l

/-- A lane's exit test writes its state alone. -/
theorem testExit_lane (l m : LaneId) (s : State) :
    (testExit l s).lane m = if m = l then { s.lane l with state := (s.lane l).exitState }
      else s.lane m := by
  unfold testExit; dsimp only; split <;> simp [setLane_lane]

/-- What a purge does to a lane (R130). -/
def LaneUnit.emptied (u : LaneUnit) : LaneUnit :=
  let v := { u with queue := [] }.cutShort
  { v with state := v.exitState }

theorem emptyLane_lane (l m : LaneId) (s : State) :
    (emptyLane l s).lane m = if m = l then (s.lane l).emptied else s.lane m := by
  unfold emptyLane
  rw [testExit_lane]
  split <;> simp_all [modifyLane_lane, LaneUnit.emptied]

/-! ## Cutting an extension short (R126) -/

/-- Cutting short writes the diverter's phase, its timer and length, and the dwell-end trigger, and leaves
the diverter out of EXTEND. -/
@[simp] theorem cutShort_frame (u : LaneUnit) :
      u.cutShort.state = u.state ∧
      u.cutShort.configured = u.configured ∧
      u.cutShort.geometry = u.geometry ∧
      u.cutShort.queue = u.queue ∧
      u.cutShort.lastFire = u.lastFire ∧
      u.cutShort.lastFireExpiry = u.lastFireExpiry ∧
      u.cutShort.full = u.full ∧
      u.cutShort.fullTimer = u.fullTimer ∧
      u.cutShort.fullDue = u.fullDue ∧
      u.cutShort.jam = u.jam ∧
      u.cutShort.jamTimer = u.jamTimer ∧
      u.cutShort.jamDue = u.jamDue ∧
      u.cutShort.slots = u.slots ∧
      u.cutShort.phase ≠ .extend := by
  unfold LaneUnit.cutShort LaneUnit.enterRetract LaneUnit.enterSettle
  dsimp only
  split <;> [split <;> [split; skip]; skip] <;> simp_all

/-! ## Queues and counts -/

/-- `t` holds as many places, records in use and no more fences than `s`, and its link differs from that
of `s` in replies and item reports alone. -/
def CountsKept (s t : State) : Prop :=
  { t.link with replies := s.link.replies, itemReports := s.link.itemReports } = s.link ∧
    t.placesHeld = s.placesHeld ∧ t.tracking.fences.length ≤ s.tracking.fences.length ∧
    t.tracking.list.length + t.tracking.fatePending.length =
      s.tracking.list.length + s.tracking.fatePending.length

theorem CountsKept.rfl (s : State) : CountsKept s s := ⟨by simp, by simp, by simp, by simp⟩

theorem CountsKept.trans {s t u : State} (h : CountsKept s t) (k : CountsKept t u) :
    CountsKept s u := by
  obtain ⟨h1, h2, h3, h4⟩ := h
  obtain ⟨k1, k2, k3, k4⟩ := k
  refine ⟨?_, by rw [k2, h2], le_trans k3 h3, by rw [k4, h4]⟩
  rw [← k1] at h1
  simpa using h1

theorem CountsKept.of_eq {s t : State} (h1 : t.link = s.link) (h2 : t.tracking = s.tracking) :
    CountsKept s t := by
  simp [CountsKept, State.placesHeld, h1, h2]

theorem CountsKept.foldl {α : Type} (f : State → α → State) (h : ∀ t x, CountsKept t (f t x))
    (l : List α) (s : State) : CountsKept s (l.foldl f s) := by
  induction l generalizing s with
  | nil => exact CountsKept.rfl s
  | cons a l ih => exact (h s a).trans (ih _)

theorem filter_split_length {α : Type} (p : α → Bool) (l : List α) :
    (l.filter p).length + (l.filter fun x => !p x).length = l.length := by
  induction l with
  | nil => rfl
  | cons a l ih => by_cases h : p a <;> simp [h] <;> omega

/-- A departure moves fences to replies (R139). -/
theorem fenceNotice_counts (item : Nat) (s : State) : CountsKept s (fenceNotice item s) := by
  have h := filter_split_length (fun f : Fence => decide (f.remaining = 0))
    (s.tracking.fences.map (·.depart item))
  simp only [List.length_map] at h
  refine ⟨by simp [fenceNotice], ?_, ?_, by simp [fenceNotice]⟩
  · simp only [fenceNotice, State.placesHeld, setLink_link, setLink_tracking, setTracking_tracking,
      List.length_append, List.length_map]
    simp only [ne_eq, decide_not]
    omega
  · simp only [fenceNotice, setLink_tracking, setTracking_tracking]
    exact le_trans (List.length_filter_le _ _) (by simp)

/-- Aborted fences become replies (R141). -/
theorem abortFences_counts (s : State) : CountsKept s (abortFences s) := by
  refine ⟨by simp [abortFences], ?_, by simp [abortFences], by simp [abortFences]⟩
  simp [abortFences, State.placesHeld]

theorem modifyRecord_counts (item : Nat) (f : Record → Record) (s : State) :
    CountsKept s (modifyRecord item f s) := by
  simp [CountsKept, modifyRecord, State.placesHeld]

theorem modifyLane_counts (l : LaneId) (f : LaneUnit → LaneUnit) (s : State) :
    CountsKept s (modifyLane l f s) := .of_eq (by simp) (by simp)

theorem testExit_counts (l : LaneId) (s : State) : CountsKept s (testExit l s) :=
  .of_eq (by simp) (by simp)

/-- A fate moves one record to the fate-pending ones (R43, R68). -/
theorem giveFate_counts (item : Nat) (fate : Fate) (offset : Option Int) (s : State) :
    CountsKept s (giveFate item fate offset s) := by
  unfold giveFate
  split
  · exact CountsKept.rfl s
  · rename_i r h
    refine CountsKept.trans ?_ (fenceNotice_counts ..)
    have hm : r ∈ s.tracking.list := List.mem_of_find?_eq_some h
    have hp : decide (r.item = item) = true := by
      have := List.find?_some h; simpa using this
    have hl := List.length_eraseP_of_mem (p := fun x : Record => decide (x.item = item)) hm hp
    have h0 : 0 < s.tracking.list.length := List.length_pos_of_mem hm
    refine ⟨by simp [queueItemReport], by simp [queueItemReport, State.placesHeld],
      by simp [queueItemReport], ?_⟩
    simp only [queueItemReport, setLink_tracking, setTracking_tracking, List.length_append,
      List.length_singleton, hl]
    omega

theorem enterRunout_counts (item : Nat) (reason : Reason) (s : State) :
    CountsKept s (enterRunout item reason s) := by
  unfold enterRunout
  split
  · exact CountsKept.rfl s
  · dsimp only
    split
    · exact (modifyRecord_counts ..).trans (giveFate_counts ..)
    · exact modifyRecord_counts ..

theorem withdrawReserved_counts (l : LaneId) (s : State) : CountsKept s (withdrawReserved l s) :=
  (CountsKept.of_eq rfl rfl).trans (CountsKept.foldl _ (fun _ _ => enterRunout_counts ..) _ _)

theorem enterClosing_counts (l : LaneId) (target : ClosingTarget) (s : State) :
    CountsKept s (enterClosing l target s) :=
  (((modifyLane_counts ..).trans (withdrawReserved_counts ..)).trans (modifyLane_counts ..)).trans
    (testExit_counts ..)

theorem fenceLane_counts (l : LaneId) (s : State) : CountsKept s (fenceLane l s) := by
  unfold fenceLane
  split <;> first
    | exact enterClosing_counts ..
    | exact modifyLane_counts ..
    | exact CountsKept.rfl s

/-! ## Closing a lane -/

/-- What closing does to a lane (R117, R118): RESERVED entries leave, an extension is cut short, and an
empty lane is at its target. -/
def LaneUnit.closed (u : LaneUnit) (target : ClosingTarget) : LaneUnit :=
  let v := { u with state := .closing target, queue := u.queue.filter (·.diverting) }.cutShort
  { v with state := v.exitState }

theorem withdrawReserved_lane (l m : LaneId) (s : State) :
    (withdrawReserved l s).lane m =
      if m = l then { s.lane l with queue := (s.lane l).queue.filter (·.diverting) }
      else s.lane m := by
  unfold withdrawReserved
  dsimp only
  rw [← setLane_lane]
  exact lane_congr (foldl_keeps State.lanes _ (fun t x => by simp) _ _) m

/-- Closing changes one lane. -/
theorem enterClosing_lane (l m : LaneId) (target : ClosingTarget) (s : State) :
    (enterClosing l target s).lane m =
      if m = l then (s.lane l).closed target else s.lane m := by
  unfold enterClosing
  rw [testExit_lane]
  by_cases h : m = l
  · subst h; simp [withdrawReserved_lane, LaneUnit.closed]
  · simp [h, modifyLane_lane, withdrawReserved_lane]

/-- What the fence action does to a lane (R119). -/
def LaneUnit.fenced (u : LaneUnit) : LaneUnit :=
  match u.state with
  | .enabled | .draining => u.closed .fenced
  | .closing _ => { u with state := .closing .fenced }
  | .disabled => { u with state := .fenced }
  | .fenced => u

/-- The fence action changes one lane (R119). -/
theorem fenceLane_lane (l m : LaneId) (s : State) :
    (fenceLane l s).lane m = if m = l then (s.lane l).fenced else s.lane m := by
  unfold fenceLane LaneUnit.fenced
  cases (s.lane l).state <;> simp only [enterClosing_lane, modifyLane_lane]
  split <;> simp_all

/-- After the fence action a lane is FENCED, or CLOSING with target FENCED (R119). -/
theorem fenced_state (u : LaneUnit) : u.fenced.state = .fenced ∨ u.fenced.state = .closing .fenced := by
  unfold LaneUnit.fenced
  cases h : u.state <;> dsimp only [LaneUnit.closed]
  case enabled | draining =>
    simp only [LaneUnit.exitState, cutShort_frame, ClosingTarget.state]
    split <;> simp
  case closing => simp
  case disabled => simp
  case fenced => simp [h]

/-! ## The purge -/

/-- With an empty tracking list a purge aborts the fences and changes nothing else (R69). -/
theorem purge_nothing {s : State} (h : s.tracking.list = []) : purge s = abortFences s := by
  rw [purge, if_pos h]

/-- A purge empties every lane, but changes none where the tracking list is empty (R69, R130). -/
theorem purge_lane (s : State) (l : LaneId) :
    (purge s).lane l = if s.tracking.list = [] then s.lane l else (s.lane l).emptied := by
  unfold purge
  split
  · exact lane_congr (by simp) l
  · have h : (abortFences (forLanes emptyLane (purgeRecords s))).lane l =
        (forLanes emptyLane (purgeRecords s)).lane l := lane_congr (by simp) l
    rw [h, forLanes_lane emptyLane (fun _ u => u.emptied) (fun l t m => emptyLane_lane l m t)]
    exact congrArg LaneUnit.emptied (lane_congr (by simp) l)

/-- Emptying the lanes leaves tracking and the link alone. -/
theorem emptyLanes_frame (s : State) :
    (forLanes emptyLane s).tracking = s.tracking ∧ (forLanes emptyLane s).link = s.link :=
  ⟨forLanes_keeps (·.tracking) _ (fun l t => by simp) _,
    forLanes_keeps (·.link) _ (fun l t => by simp) _⟩

/-- Emptying a lane twice is emptying it once. -/
theorem emptied_twice (u : LaneUnit) : u.emptied.emptied = u.emptied := by
  obtain ⟨hq, hp⟩ : u.emptied.queue = [] ∧ u.emptied.phase ≠ .extend := by simp [LaneUnit.emptied]
  have hx : ∀ v : LaneUnit, v.queue = [] → v.phase ≠ .extend →
      { v with state := v.exitState }.exitState = v.exitState := by
    intro v h1 h2
    rcases hs : v.state with _ | _ | t | _ | _ <;> try simp [LaneUnit.exitState, hs, h1, h2]
    cases t <;> simp [ClosingTarget.state]
  have hc : ({ u.emptied with queue := [] } : LaneUnit).cutShort = u.emptied := by
    have he : ({ u.emptied with queue := [] } : LaneUnit) = u.emptied := by
      cases h : u.emptied; simp_all
    rw [he, LaneUnit.cutShort, if_neg hp]
  conv_lhs => rw [LaneUnit.emptied]
  rw [hc]
  have hu : u.emptied.exitState = u.emptied.state := by
    have := hx ({ u with queue := [] } : LaneUnit).cutShort (by simp) (by simp)
    exact this
  rw [hu]

/-- SOFT_RESET TRACK and CONFIG empty every lane, whether or not an item was tracked (R130, R135). -/
theorem clearTracks_lane (s : State) (l : LaneId) :
    (clearTracks s).lane l = (s.lane l).emptied := by
  have h : (clearTracks s).lane l = (forLanes emptyLane (purge s)).lane l :=
    lane_congr (by simp [clearTracks, dropPrevTrail]) l
  rw [h, forLanes_lane emptyLane (fun _ u => u.emptied) (fun l t m => emptyLane_lane l m t),
    purge_lane]
  split
  · rfl
  · exact emptied_twice _

/-- SOFT_RESET TRACK and CONFIG leave tracking and the link as the purge does (R69, R185). -/
theorem clearTracks_frame (s : State) :
    (clearTracks s).tracking = (purge s).tracking ∧ (clearTracks s).link = (purge s).link := by
  simpa [clearTracks, dropPrevTrail] using emptyLanes_frame (purge s)

/-- A purge retires every record and drops every fence (R69, R141). -/
theorem purge_tracking (s : State) : (purge s).tracking = s.purgedTracking := by
  rw [purge, abortFences, setLink_tracking, setTracking_tracking]
  split
  · rename_i h; simp [State.purgedTracking, h]
  · rw [(emptyLanes_frame _).1]; rfl

/-- A purge queues the FATE reports and the ABORTED replies (R69, R141). -/
theorem purge_link (s : State) : (purge s).link = s.purgedLink := by
  rw [purge, abortFences, setLink_link]
  split
  · rename_i h; simp [State.purgedLink, h]; intro a _; rfl
  · rw [(emptyLanes_frame _).1, (emptyLanes_frame _).2]; rfl

end Sys2Proof.Machine
end

