-- ==== Sys2Proof/Laws/Faults.lean ====
section
/-! SUPPORT. What the fault unit's shared operations do: the belt stops, the fence action over a lane set,
the class actions, the FAULT report, and an occurrence. -/

namespace Sys2Proof.Machine

/-! ## Belt stops (R23, R24) -/

theorem beltBrake_belt (s : State) : (beltBrake s).belt =
    if s.belt.state = .brake then s.belt
    else { s.belt with state := .brake, target := 0, reference := 0, standstillTimer := 0 } := by
  unfold beltBrake enterBrake; cases h : s.belt.state <;> simp

theorem beltHalt_belt (s : State) : (beltHalt s).belt =
    if s.belt.state.stopping then s.belt
    else { s.belt with state := .decel, target := 0, standstillTimer := 0 } := by
  unfold beltHalt enterDecel; cases h : s.belt.state <;> simp [BeltState.stopping]

theorem beltHalt_stopping (s : State) : (beltHalt s).belt.state.stopping := by
  rw [beltHalt_belt]; split
  · assumption
  · simp [BeltState.stopping]

theorem beltBrake_state (s : State) : (beltBrake s).belt.state = .brake := by
  rw [beltBrake_belt]; split
  · assumption
  · rfl

theorem beltHalt_counts (s : State) : CountsKept s (beltHalt s) := .of_eq (by simp) (by simp)

theorem beltBrake_counts (s : State) : CountsKept s (beltBrake s) := .of_eq (by simp) (by simp)

/-- A belt stop writes no more of the infeed than its state. -/
theorem beltHalt_infeed (s : State) :
    { (beltHalt s).infeed with state := s.infeed.state } = s.infeed := by
  unfold beltHalt enterDecel; split <;> simp [chooseInfeed_infeed]

theorem beltBrake_infeed (s : State) :
    { (beltBrake s).infeed with state := s.infeed.state } = s.infeed := by
  unfold beltBrake enterBrake; split <;> simp [chooseInfeed_infeed]

/-! ## Fencing a lane set (R150) -/

theorem fenceLanes_counts (set : BitVec 16) (s : State) : CountsKept s (fenceLanes set s) := by
  refine CountsKept.foldl _ (fun t l => ?_) _ _
  dsimp only
  split
  · exact fenceLane_counts ..
  · exact CountsKept.rfl _

theorem laneBit_getLsbD (l m : LaneId) : (laneBit l).getLsbD m.val = decide (m = l) := by
  revert l m; decide

/-- Each lane of the set is fenced, and no other lane changes (R150). -/
theorem fenceLanes_lane (set : BitVec 16) (s : State) (l : LaneId) :
    (fenceLanes set s).lane l = if set.getLsbD l.val then (s.lane l).fenced else s.lane l := by
  refine forLanes_lane _ (fun l u => if set.getLsbD l.val then u.fenced else u) (fun l t m => ?_) s l
  split
  · rw [fenceLane_lane]
  · split <;> simp_all

/-! ## The class actions (R149 to R152) -/

theorem recoverAction_counts (f : FaultSource) (s : State) : CountsKept s (recoverAction f s) := by
  unfold recoverAction
  split <;> first
    | exact fenceLanes_counts ..
    | exact .of_eq (by simp) (by simp)

/-- A retract request reaches one lane, and leaves its queue alone (R126). -/
theorem retractRequest_lane (l m : LaneId) (s : State) :
    (retractRequest l s).lane m = if m = l then
      (if (s.lane l).phase = .extend then
        { (s.lane l).cutShort with state := (s.lane l).cutShort.exitState } else s.lane l)
      else s.lane m := by
  unfold retractRequest
  split
  · rw [testExit_lane]; split <;> simp_all [modifyLane_lane]
  · split <;> simp_all

/-- The retract requests leave every block but the lanes and the events. -/
theorem retractRequests_frame (s : State) :
    (forLanes retractRequest s).belt = s.belt ∧ (forLanes retractRequest s).tracking = s.tracking ∧
      (forLanes retractRequest s).link = s.link ∧ (forLanes retractRequest s).infeed = s.infeed :=
  ⟨forLanes_keeps State.belt _ (fun l t => by simp) _,
    forLanes_keeps State.tracking _ (fun l t => by simp) _,
    forLanes_keeps State.link _ (fun l t => by simp) _,
    forLanes_keeps State.infeed _ (fun l t => by simp) _⟩

/-- The STOP action brakes the belt (R152). -/
theorem stopAction_belt (s : State) : (stopAction s).belt = (beltBrake s).belt := by
  simp [stopAction, (retractRequests_frame _).1]

/-- The STOP action purges (R152). -/
theorem stopAction_tracking (s : State) : (stopAction s).tracking = s.purgedTracking := by
  rw [stopAction, purge_tracking, State.purgedTracking, (retractRequests_frame _).2.1]
  simp [State.purgedTracking]

theorem stopAction_link (s : State) : (stopAction s).link = s.purgedLink := by
  rw [stopAction, purge_link, State.purgedLink, (retractRequests_frame _).2.1,
    (retractRequests_frame _).2.2.1]
  simp [State.purgedLink]

/-- An emptied lane holds nothing, is out of EXTEND, and keeps what a purge does not name (R130). -/
theorem emptied_frame (u : LaneUnit) :
    u.emptied.queue = [] ∧ u.emptied.phase ≠ .extend ∧ u.emptied.geometry = u.geometry ∧
      u.emptied.configured = u.configured ∧ u.emptied.slots = u.slots ∧
      u.emptied.lastFire = u.lastFire ∧ u.emptied.full = u.full ∧ u.emptied.jam = u.jam := by
  simp [LaneUnit.emptied]

/-- After the STOP action every lane is out of EXTEND, and empty where any item was tracked (R69, R152). -/
theorem stopAction_lane (s : State) (l : LaneId) :
    ((stopAction s).lane l).queue = (if s.tracking.list = [] then (s.lane l).queue else []) ∧
      ((stopAction s).lane l).phase ≠ .extend ∧
      ((stopAction s).lane l).geometry = (s.lane l).geometry ∧
      ((stopAction s).lane l).slots = (s.lane l).slots := by
  have h := emptied_frame ((forLanes retractRequest (beltBrake s)).lane l)
  have hl := forLanes_lane retractRequest (fun _ u => if u.phase = .extend then
      { u.cutShort with state := u.cutShort.exitState } else u)
    (fun l t m => retractRequest_lane l m t) (beltBrake s) l
  have hb : (beltBrake s).lane l = s.lane l := lane_congr (by simp) l
  have ht : (forLanes retractRequest (beltBrake s)).tracking.list = s.tracking.list := by
    rw [(retractRequests_frame _).2.1]; simp
  rw [stopAction, purge_lane, ht]
  split
  · rw [hl, hb]; split <;> simp_all
  · refine ⟨h.1, h.2.1, h.2.2.1.trans ?_, h.2.2.2.2.1.trans ?_⟩ <;>
      (rw [hl, hb]; split <;> simp)

/-- A class action leaves the fault unit alone. -/
theorem takeAction_source (f : FaultSource) (s : State) (g : FaultSource) :
    (takeAction f s).source g = s.source g := source_congr (by simp) g

/-- A class action leaves the fault report queue and what is being received and sent alone, and moves no
reply place and no record in use. -/
theorem takeAction_counts (f : FaultSource) (s : State) : CountsKept s (takeAction f s) := by
  unfold takeAction
  split
  · exact CountsKept.rfl s
  · exact recoverAction_counts ..
  · exact beltHalt_counts s
  · refine ⟨?_, ?_, ?_, ?_⟩
    · rw [stopAction_link]; simp [State.purgedLink]
    · simp [State.placesHeld, stopAction_link, stopAction_tracking, State.purgedLink,
        State.purgedTracking]
    · simp [stopAction_tracking, State.purgedTracking]
    · simp [stopAction_tracking, State.purgedTracking]; omega

theorem CountsKept.faultReports {s t : State} (h : CountsKept s t) :
    t.link.faultReports = s.link.faultReports := by
  have := h.1; rw [← this]

theorem CountsKept.commands {s t : State} (h : CountsKept s t) :
    t.link.commands = s.link.commands := by
  have := h.1; rw [← this]

/-- The first fault as a source that comes to act captures or keeps it (R148). -/
theorem captureFirst_faults (f : FaultSource) (s : State) :
    (captureFirst f s).faults = { s.faults with first := some (s.faults.first.getD f) } := by
  unfold captureFirst; cases h : s.faults.first <;> simp

/-- A source that comes to act (R145 step 3): the first fault, its class's action, and its report. -/
theorem actAndReport_spec (f : FaultSource) (s : State) :
    let a := takeAction f (captureFirst f s)
    a.faults = { s.faults with first := some (s.faults.first.getD f) } ∧
      actAndReport f s = { a with link := { a.link with
        faultReports := placeFaultReport
          { source := f, count := (s.source f).count, cls := (s.source f).cls,
            first := decide (s.faults.first.getD f = f),
            lane := if f.laneScoped then (s.source f).latchLane else none } s.link.faultReports } } := by
  dsimp only
  have h2 : (takeAction f (captureFirst f s)).faults =
      { s.faults with first := some (s.faults.first.getD f) } := by
    rw [← captureFirst_faults]; exact (takeAction_frame ..).2.2.2.2.2.2.2.2
  have h3 : (takeAction f (captureFirst f s)).link.faultReports = s.link.faultReports := by
    rw [(takeAction_counts ..).faultReports]; simp
  have h4 : (takeAction f (captureFirst f s)).source f = s.source f := takeAction_source ..
  refine ⟨h2, ?_⟩
  unfold actAndReport reportDue
  simp only [State.setLink, h3, h4, h2, Option.some.injEq]

end Sys2Proof.Machine
end

