-- ==== Sys2Proof/Laws/Tracking.lean ====
section
/-! SUPPORT. Records of the tracking list and entries of a lane's queue at a known place: finding, changing
and removing one, and what a fate, a run-out and a decision do then. -/

namespace Sys2Proof.Machine

/-! ## One element of a list, known by its item number -/

theorem find_item {α : Type} (key : α → Nat) (before : List α) (r : α) (after : List α)
    (h : ∀ x ∈ before ++ after, key x ≠ key r) :
    (before ++ r :: after).find? (fun x => decide (key x = key r)) = some r := by
  rw [List.find?_append]
  have : before.find? (fun x => decide (key x = key r)) = none := by
    simp only [List.find?_eq_none, decide_eq_true_eq]
    exact fun x hx => h x (List.mem_append_left _ hx)
  simp [this]

theorem map_item {α : Type} (key : α → Nat) (f : α → α) (before : List α) (r : α) (after : List α)
    (h : ∀ x ∈ before ++ after, key x ≠ key r) :
    (before ++ r :: after).map (fun x => if key x = key r then f x else x) =
      before ++ f r :: after := by
  have h1 : before.map (fun x => if key x = key r then f x else x) = before := by
    conv_rhs => rw [← List.map_id before]
    exact List.map_congr_left fun x hx => by simp [h x (List.mem_append_left _ hx)]
  have h2 : after.map (fun x => if key x = key r then f x else x) = after := by
    conv_rhs => rw [← List.map_id after]
    exact List.map_congr_left fun x hx => by simp [h x (List.mem_append_right _ hx)]
  simp [h1, h2]

theorem eraseP_item {α : Type} (key : α → Nat) (before : List α) (r : α) (after : List α)
    (h : ∀ x ∈ before ++ after, key x ≠ key r) :
    (before ++ r :: after).eraseP (fun x => decide (key x = key r)) = before ++ after := by
  rw [List.eraseP_append_right _ (fun x hx => by
    simpa using h x (List.mem_append_left _ hx))]
  simp

theorem filter_item {α : Type} (key : α → Nat) (before : List α) (r : α) (after : List α)
    (h : ∀ x ∈ before ++ after, key x ≠ key r) :
    (before ++ r :: after).filter (fun x => decide (key x ≠ key r)) = before ++ after := by
  have h1 : before.filter (fun x => decide (key x ≠ key r)) = before :=
    List.filter_eq_self.2 fun x hx => by simpa using h x (List.mem_append_left _ hx)
  have h2 : after.filter (fun x => decide (key x ≠ key r)) = after :=
    List.filter_eq_self.2 fun x hx => by simpa using h x (List.mem_append_right _ hx)
  rw [List.filter_append, List.filter_cons, h1, h2]
  simp

/-! ## The tracking list -/

theorem tracked_of_listHolds {s : State} {before after : List Record} {r : Record}
    (h : s.ListHolds before r after) : s.tracked r.item = some r := by
  rw [State.tracked, h.1]
  exact find_item Record.item before r after h.2

theorem modifyRecord_of_listHolds {s : State} {before after : List Record} {r : Record}
    (h : s.ListHolds before r after) (f : Record → Record) :
    modifyRecord r.item f s = s.withList (before ++ f r :: after) := by
  rw [modifyRecord, h.1, map_item Record.item f before r after h.2]
  rfl

/-- A record changed in place still stands where it stood. -/
theorem listHolds_withList {s : State} {before after : List Record} {r : Record}
    (h : s.ListHolds before r after) (f : Record → Record) (hf : (f r).item = r.item) :
    (s.withList (before ++ f r :: after)).ListHolds before (f r) after :=
  ⟨rfl, by rw [hf]; exact h.2⟩

/-- The list of another block's update. -/
theorem listHolds_congr {s t : State} {before after : List Record} {r : Record}
    (h : s.ListHolds before r after) (ht : t.tracking.list = s.tracking.list) :
    t.ListHolds before r after := ⟨ht.trans h.1, h.2⟩

theorem giveFate_of_listHolds {s : State} {before after : List Record} {r : Record}
    (h : s.ListHolds before r after) (fate : Fate) (offset : Option Int) :
    giveFate r.item fate offset s = fenceNotice r.item
      (queueItemReport (.fate (({ r with confirmOffset := offset } : Record).fateReport fate))
        (s.setTracking { s.tracking with
          list := before ++ after
          fatePending := s.tracking.fatePending ++
            [({ r with confirmOffset := offset } : Record).retire fate] })) := by
  rw [giveFate, tracked_of_listHolds h]
  simp only [h.1]
  rw [eraseP_item Record.item before r after h.2]

/-- A trigger at a position ahead is armed (R7). -/
theorem armAt_of_ahead {s : State} {p : Word} (h : s.Ahead p) : armAt s p = .armed := by
  have hr : s.position.count.isReached p = false := by
    simpa [Word.isReached, State.Ahead] using h
  simp [armAt, hr]

/-- A run-out ahead of the item is armed. -/
theorem enterRunout_of_listHolds {s : State} {before after : List Record} {r : Record}
    (h : s.ListHolds before r after) (reason : Reason) (ha : s.Ahead r.runoutPoint) :
    enterRunout r.item reason s =
      s.withList (before ++ { r with
        state := .runout, reason := some reason, lane := none, firePos := none
        runoutArm := .armed } :: after) := by
  rw [enterRunout, tracked_of_listHolds h]
  simp only [armAt_of_ahead ha]
  rw [if_neg (by decide), modifyRecord_of_listHolds h]
  rfl

/-! ## Due decisions -/

/-- With no decision due, nothing is decided (R53). -/
theorem takeDueDecisions_none {s : State} (h : ∀ r ∈ s.tracking.list, r.state = .waiting →
    r.decisionDue = false) : takeDueDecisions s = s := by
  have hd : decideOldest s = s := by
    unfold decideOldest
    split
    · rename_i r hr
      have hm := List.mem_of_find?_eq_some hr
      have hw : r.state = .waiting := by simpa using List.find?_some hr
      simp [h r hm hw]
    · rfl
  unfold takeDueDecisions
  generalize List.range s.tracking.list.length = l
  induction l with
  | nil => rfl
  | cons a l ih => rw [List.foldl_cons, hd]; exact ih

/-- Where deciding the oldest WAITING item once leaves nothing due, that is all that is taken (R53). -/
theorem takeDueDecisions_once {s : State} (h0 : s.tracking.list ≠ [])
    (h : ∀ r ∈ (decideOldest s).tracking.list, r.state = .waiting → r.decisionDue = false) :
    takeDueDecisions s = decideOldest s := by
  have hd : decideOldest (decideOldest s) = decideOldest s := by
    generalize decideOldest s = t at h
    conv_lhs => unfold decideOldest
    split
    · rename_i r hr
      have hm := List.mem_of_find?_eq_some hr
      have hw : r.state = .waiting := by simpa using List.find?_some hr
      simp [h r hm hw]
    · rfl
  have hf : ∀ l : List Nat, l.foldl (fun t _ => decideOldest t) (decideOldest s) =
      decideOldest s := by
    intro l
    induction l with
    | nil => rfl
    | cons a l ih => rw [List.foldl_cons, hd]; exact ih
  unfold takeDueDecisions
  obtain ⟨n, hn⟩ : ∃ n, s.tracking.list.length = n + 1 :=
    ⟨_, (Nat.succ_pred_eq_of_pos (List.length_pos_iff.2 h0)).symm⟩
  rw [hn, List.range_succ_eq_map, List.foldl_cons]
  exact hf _

/-- The oldest WAITING item behind decided ones. -/
theorem decideOldest_of_listHolds {s : State} {before after : List Record} {r : Record}
    (h : s.ListHolds before r after) (hb : ∀ x ∈ before, x.state ≠ .waiting)
    (hr : r.state = .waiting) (hd : r.decisionDue = true) : decideOldest s = decideItem r s := by
  have : s.tracking.list.find? (fun r => decide (r.state = .waiting)) = some r := by
    rw [h.1, List.find?_append]
    have : before.find? (fun r => decide (r.state = .waiting)) = none := by
      simpa using hb
    simp [this, hr]
  simp [decideOldest, this, hd]

end Sys2Proof.Machine
end

