-- ==== Sys2Proof/Tests/Slice0.lean ====
section
/-! SUPPORT. Tests on fixed values: the checks of well-formedness, what each row does on a small state, and
for each obligation a state and operands that meet its hypotheses, clause by clause. -/

open Sys2Proof Sys2Proof.Machine

-- One theorem at a time: a worker thread that waits for the kernel keeps its stack.
set_option Elab.async false

namespace Sys2Proof.Tests

/-! ## Small states -/

/-- A command frame with tag 0x11. -/
def frameOf (kind : Byte) (payload : List Byte) : Frame := { kind, tag := 0x11, payload }

/-- The state with one command frame in the command queue. -/
def ready (kind : Byte) (payload : List Byte) (s : State) : State :=
  { s with link := { s.link with commands := [frameOf kind payload] } }

/-- That frame may be taken. -/
theorem ready_isReady (kind : Byte) (payload : List Byte) (s : State) (h1 : s.resetHold = none)
    (h2 : s.link.replies.length + s.tracking.fences.length < 8) :
    (ready kind payload s).Ready (frameOf kind payload) := ⟨h1, h2, rfl⟩

/-- The state after a command. -/
def after (c : Instr) (s : State) : State :=
  match exec c s with
  | .next t => t
  | .fault _ => s
  | .refused _ => s

/-- The status and fields of the last reply. -/
def lastReply (s : State) : Option (Status × List Byte) :=
  s.link.replies.getLast?.map fun r => (r.status, r.fields)

/-- What a command frame is answered. -/
def answer (c : Instr) (kind : Byte) (payload : List Byte) (s : State) : Option (Status × List Byte) :=
  lastReply (after c (ready kind payload s))

def inBelt (b : BeltState) (s : State) : State := { s with belt := { s.belt with state := b } }

def atCount (c : Word) (s : State) : State := { s with position := { s.position with count := c } }

def inMeasurement (m : Measurement) (s : State) : State :=
  { s with induction := { s.induction with measurement := m } }

def inLane (l : LaneId) (f : LaneUnit → LaneUnit) (s : State) : State := s.withLane l (f (s.lane l))

def inSource (f : FaultSource) (g : SourceState → SourceState) (s : State) : State :=
  s.withSource f (g (s.source f))

def latched (f : FaultSource) (s : State) : State :=
  { inSource f (fun x => { x with latched := true, count := 1 }) s with
    faults := { (inSource f (fun x => { x with latched := true, count := 1 }) s).faults with
      first := some f } }

/-- A level at an input, accepted and still standing there. -/
def accepted (i : SensorInput) (s : State) : State :=
  s.withSensor i { raw := true, accepted := true, candidate := none }

/-- A level at an input that differs from the accepted one, held since `stamp`. -/
def standing (i : SensorInput) (stamp : Word) (held : Nat) (due : Bool) (s : State) : State :=
  s.withSensor i { s.sensor i with candidate := some { stamp, held, due } }

/-- A WAITING record: its lead 1000, its decision point 5000, its run-out point 1,001,000. -/
def record (item : Nat) : Record :=
  { item, lead := 1000, length := 300, shortGap := false, decisionPoint := 5000,
    runoutPoint := 1001000, decisionDue := false, key := none, directLane := none,
    state := .waiting, decisionNumber := none, lane := none, reason := none, route := none,
    firePos := none, fate := none, confirmOffset := none, decisionArm := .armed, runoutArm := .off }

/-- A RESERVED entry: it fires at 7000, its window is 7100 to 7400. -/
def entry (item : Nat) : Entry :=
  { item, diverting := false, firePos := 7000, openPos := 7100, closePos := 7400,
    fireArm := .armed, closeArm := .off }

/-- A DIVERTING entry. -/
def fired (item : Nat) : Entry :=
  { entry item with diverting := true, fireArm := .off, closeArm := .armed }

/-- A lane geometry with every field in range. -/
def geometry : Geometry :=
  { fireDistance := 6000, dwell := 200, retractTime := 20, settleTime := 10, pitch := 500,
    confirmOpen := 100, confirmClose := 400, fullDelay := 500, jamTime := 0 }

/-- An ENABLED lane with that geometry. -/
def enabled (u : LaneUnit) : LaneUnit :=
  { u with state := .enabled, configured := true, geometry := geometry }

/-- The part after reset with lane 3 ENABLED and configured. -/
def laneUp : State := inLane 3 enabled .reset

/-- One tracked record. -/
def tracking (r : Record) (s : State) : State := s.withList [r]

/-- A valid, unlocked route entry of one key under plan 0, to lane 3. -/
def route (key : Key) : RouteEntry :=
  { valid := true, key, mask := 0, plan := 0, allPlans := false, target := .lane 3,
    locked := false, hits := 0 }

/-- Every entry valid, each with a key of its own. -/
def fullTable (locked : Bool) : RouteTable :=
  { RouteTable.reset with
    entries := Vector.ofFn fun i => { route (BitVec.ofNat 24 i.val) with locked := locked } }

def inRoutes (t : RouteTable) (s : State) : State := { s with routes := t }

/-- A line configuration other than the one after reset, and the payload that spells it. -/
def otherLine : LineConfig := { LineConfig.reset with runout := 50000, minGap := 200, reserve := 4 }

/-! ## Well-formedness -/

theorem test_wf_decision_item_zero : (Instr.decisionTrigger 0).wf = false := by decide
theorem test_wf_decision_item_high : (Instr.decisionTrigger 65536).wf = false := by decide
theorem test_wf_runout_item_zero : (Instr.runoutTrigger 0).wf = false := by decide
theorem test_wf_runout_item_high : (Instr.runoutTrigger 65536).wf = false := by decide
theorem test_wf_items_in_range :
    (Instr.decisionTrigger 1).wf = true ∧ (Instr.runoutTrigger 65535).wf = true ∧
      Instr.status.wf = true := by decide

/-- No row of the table has bits, so a word spells no command and leaves the queue alone. -/
theorem test_decodeTableWord_none :
    decodeTableWord 8 0x01 = none ∧ State.reset.withFetchWord 8 0x01 = State.reset := by
  constructor <;> rfl

/-! ## The queue of commands -/

theorem test_step_takes_the_front :
    (match step { State.reset with pending := [.beltTick, .identify] } with
      | .next t => (t.pending, t.belt.standstillTimer)
      | _ => ([], 0)) = ([.identify], 1) := by decide

theorem test_step_idles :
    (match step State.reset with | .next t => decide (t = State.reset) | _ => false) = true := by
  decide +kernel

theorem test_witness_StepRunsFrontCommand : State.reset.pending = [] := by decide

/-! ## Reset -/

theorem test_powerOn_holds_reset :
    (after .powerOn .reset).resetHold = some .powerOn ∧
      (after .powerOn .reset).brakePin = true ∧ (after .powerOn .reset).atnPin = true := by decide

theorem test_hold_makes_the_polarity_active_low :
    (after .resetAssert { State.reset with events := { EventUnit.reset with
      activeHigh := true } }).events.activeHigh = false := by decide

theorem test_resetAssert_keeps_the_cause :
    (after .resetAssert .reset).resetHold = some .pin ∧
      (after .resetAssert (after .powerOn .reset)).resetHold = some .powerOn := by decide

theorem test_resetEnd_gives_the_reset_state :
    after (.resetEnd false) (after .powerOn .reset) = State.reset := by decide +kernel

theorem test_resetEnd_with_the_eye_blocked :
    (after (.resetEnd true) (after .resetAssert (accepted .entryEye .reset))).induction.measurement =
      .unmeasured 0 := by decide

theorem test_witness_HeldResetStopsTheInputs :
    (after .powerOn .reset).resetHold.isSome = true ∧ Instr.phaseError ≠ .powerOn ∧
      Instr.phaseError ≠ .resetAssert ∧ ∀ fast, Instr.phaseError ≠ .resetEnd fast := by decide

theorem test_witness_ResetEndStartsEveryBlock :
    (after .powerOn .reset).resetHold = some .powerOn ∧
      ((after .powerOn .reset).sensor .emergencyStop).raw = false ∧
      (after .powerOn (accepted .entryEye .reset)).resetHold = some .powerOn ∧
      ((after .powerOn (accepted .entryEye .reset)).sensor .emergencyStop).raw = false ∧
      ((after .powerOn (accepted .entryEye .reset)).sensor .entryEye).raw = true := by decide

theorem test_witness_ResetEndWithEmergencyStop :
    (after .resetAssert (accepted .emergencyStop .reset)).resetHold = some .pin ∧
      ((after .resetAssert (accepted .emergencyStop .reset)).sensor .emergencyStop).raw = true := by
  decide

theorem test_softReset_answers_the_scope :
    answer .softResetTrack 0x03 [0] .reset = some (.ok, [0, 0, 0, 64]) ∧
      answer .softResetEvents 0x03 [1] (tracking (record 1) .reset) = some (.ok, [1, 1, 0, 63]) ∧
      answer .softResetConfig 0x03 [2] (inBelt .run .reset) = some (.badState, []) ∧
      answer .softResetTrack 0x03 [3] .reset = some (.badArg, []) := by decide +kernel

theorem test_softResetTrack_purges :
    (after .softResetTrack (ready 0x03 [0] (tracking (record 7) .reset))).tracking.fatePending.map
      (fun r => (r.item, r.fate)) = [(7, some .purged)] := by decide +kernel

/-- SOFT_RESET TRACK cuts an extension short whether or not an item is tracked. -/
theorem test_softResetTrack_with_a_diverter_extended :
    let s := inLane 3 (fun u => { u with phase := .extend }) laneUp
    ((after .softResetTrack (ready 0x03 [0] s)).lane 3).phase = .retract ∧
      ((after .softResetTrack (ready 0x03 [0] (tracking (record 7) s))).lane 3).phase = .retract := by
  decide +kernel

theorem test_witness_SoftResetByScope :
    (ready 0x03 [0] .reset).Ready (frameOf 0x03 [0]) ∧
      State.reset.tracking.list = [] ∧
      (ready 0x03 [0] (tracking (record 7) .reset)).Ready (frameOf 0x03 [0]) ∧
      (tracking (record 7) .reset).tracking.list ≠ [] ∧
      (ready 0x03 [1] .reset).Ready (frameOf 0x03 [1]) ∧
      (ready 0x03 [2] (inBelt .brake .reset)).Ready (frameOf 0x03 [2]) ∧
      (inBelt .brake .reset).belt.state ≠ .stopped ∧
      (ready 0x03 [2] .reset).Ready (frameOf 0x03 [2]) ∧ State.reset.belt.state = .stopped ∧
      State.reset.accepted .emergencyStop = false ∧
      State.reset.induction.measurement = .clear ∧
      (ready 0x03 [2] (accepted .emergencyStop .reset)).Ready (frameOf 0x03 [2]) ∧
      (accepted .emergencyStop .reset).accepted .emergencyStop = true ∧
      (∀ m ∈ [Measurement.jammed, .measuring 0, .unmeasured 0],
        (ready 0x03 [2] (inMeasurement m .reset)).Ready (frameOf 0x03 [2])) ∧
      (inMeasurement (.measuring 0) .reset).Ahead ((0 : Word).plus 4001) ∧
      ¬ (atCount 4001 (inMeasurement (.unmeasured 0) .reset)).Ahead ((0 : Word).plus 4001) := by
  unfold State.Ready State.Ahead; decide

/-! ## The position unit -/

theorem test_encoderStep_counts :
    (after (.encoderStep true false) .reset).position.count = 1 ∧
      (after (.encoderStep false true) .reset).position.count = 0xFFFFFFFF := by decide

theorem test_phaseError_stops_the_belt :
    (after .phaseError .reset).belt.state = .brake ∧
      (after .phaseError .reset).faults.first = some .encoderPhase := by decide +kernel

theorem test_measuredSpeedUpdate_takes_the_window :
    (after .measuredSpeedUpdate { State.reset with position := { State.reset.position with
      history := [3, -1, 2], speedDue := true } }).position.measuredSpeed = 40 := by decide

theorem test_sensorChange_forms_a_candidate :
    ((after (.sensorChange .entryEye true) (atCount 9 .reset)).sensor .entryEye).candidate =
      some { stamp := 9, held := 0, due := false } := by decide

theorem test_sensorEdgeAccepted_starts_a_measurement :
    (after (.sensorEdgeAccepted .entryEye)
      (standing .entryEye 500 2 true (atCount 520 .reset))).induction.measurement =
        .measuring 500 := by decide

theorem test_witness_DecodingTables :
    EncoderMode.quadX1 ≠ .pulseUpDown ∧ LineConfig.reset.inverted = false ∧
      State.reset.resetHold = none ∧
      State.reset.line.decode State.reset.position.encoder ⟨false, false⟩ = .noStep ∧
      State.reset.line.decode State.reset.position.encoder ⟨true, true⟩ = .phaseError := by decide

theorem test_witness_ForwardStepMovesTheBelt :
    State.reset.resetHold = none ∧
      State.reset.line.decode State.reset.position.encoder ⟨true, false⟩ = .forward := by decide

theorem test_witness_BackwardStepsAndPhaseErrors :
    State.reset.resetHold = none ∧
      State.reset.line.decode State.reset.position.encoder ⟨false, true⟩ = .backward ∧
      State.reset.line.mode ≠ .pulseUpDown := by decide

theorem test_witness_SensorFilterTakesLevels :
    let s := standing .entryEye 4 1 false .reset
    let direct : State := { State.reset with line := { LineConfig.reset with filterTime := 0 } }
    let due := standing .entryEye 4 2 true .reset
    s.resetHold = none ∧ (s.sensor .entryEye).candidate.all (fun c => !c.due) = true ∧
      false = (s.sensor .entryEye).accepted ∧ true ≠ (s.sensor .entryEye).accepted ∧
      (s.sensor .entryEye).candidate.isSome = true ∧
      State.reset.resetHold = none ∧ true ≠ (State.reset.sensor .entryEye).accepted ∧
      (State.reset.sensor .entryEye).candidate = none ∧ 0 < State.reset.line.filterTime ∧
      direct.resetHold = none ∧ (direct.sensor .entryEye).candidate = none ∧
      direct.line.filterTime = 0 ∧ due.resetHold = none ∧
      (due.sensor .entryEye).candidate = some { stamp := 4, held := 2, due := true } := by decide

/-! ## Induction -/

/-- An item of length 100, the least allowed, leaves the entry eye clear at 1100 behind a trail at 900. -/
def measuring : State :=
  atCount 1110 { State.reset with induction := { State.reset.induction with
    measurement := .measuring 1000, prevTrail := some 900, trailExpiry := .armed } }

theorem test_jamTrigger_jams :
    (after .jamTrigger { State.reset with induction := { State.reset.induction with
      measurement := .measuring 0, jamTrigger := some { pos := 4001, reached := true } } }).faults.first =
        some .entryJam := by decide +kernel

theorem test_trailExpiry_drops_the_trail :
    (after .trailExpiry { State.reset with induction := { State.reset.induction with
      prevTrail := some 5, trailExpiry := .reached } }).induction.prevTrail = none := by decide

theorem test_gapReleaseTrigger_releases :
    (after .gapReleaseTrigger { inBelt .run State.reset with infeed := { State.reset.infeed with
      enable := true, state := .gapHold
      gapRelease := some { pos := 5, reached := true } } }).infeed.state = .feeding := by decide +kernel

theorem test_witness_EntryEyePositions :
    State.reset.induction.measurement = .clear ∧
      State.reset.Ahead ((1000 : Word).plus (State.reset.line.maxLength + 1)) ∧
      ¬ State.reset.Ahead ((0xFFFFF000 : Word).plus (State.reset.line.maxLength + 1)) ∧
      (inMeasurement .jammed .reset).induction.measurement = .jammed ∧
      (inMeasurement (.unmeasured 0) .reset).induction.measurement = .unmeasured 0 ∧
      (∃ s : State, s.resetHold = none ∧
        s.induction.jamTrigger = some { pos := 4001, reached := true }) ∧
      (∃ s : State, s.resetHold = none ∧
        s.infeed.gapRelease = some { pos := 7, reached := true }) ∧
      ∃ s : State, s.resetHold = none ∧ s.induction.trailExpiry = .reached :=
  ⟨by decide, by unfold State.Ahead; decide, by unfold State.Ahead; decide, by decide, by decide,
   ⟨{ State.reset with induction := { State.reset.induction with
      jamTrigger := some { pos := 4001, reached := true } } }, rfl, rfl⟩,
   ⟨{ State.reset with infeed := { State.reset.infeed with
      gapRelease := some { pos := 7, reached := true } } }, rfl, rfl⟩,
   ⟨{ State.reset with induction := { State.reset.induction with
      trailExpiry := .reached } }, rfl, rfl⟩⟩

/-- Lengths 99 and 4001, each one count out of the limits. -/
theorem test_witness_WrongLengthIsDiscarded :
    measuring.induction.measurement = .measuring 1000 ∧
      Word.diff 1099 1000 < measuring.line.minLength ∧
      (measuring.line.maxLength : Int) < Word.diff 5001 1000 ∧
      measuring.line.minLength ≤ measuring.line.maxLength := by decide

/-- The same item with a minimum gap of 101, one count more than its gap. -/
def tooClose : State := { measuring with line := { LineConfig.reset with minGap := 101 } }

/-- The same item with no previous trail, behind a tracked item whose lead is `lead`. -/
def trailLost (lead : Word) : State :=
  { tracking { record 1 with lead } measuring with induction := { measuring.induction with
    prevTrail := none, trailExpiry := .off } }

/-- The same item with every record in use. -/
def poolFull (s : State) : State :=
  { s with tracking := { s.tracking with fatePending := List.replicate 64 (record 1) } }

theorem gapClear_measuring : measuring.GapClear 1000 :=
  ⟨fun p h => by
    have : measuring.induction.prevTrail = some 900 := by decide
    obtain rfl : (900 : Word) = p := Option.some.inj (this.symm.trans h)
    decide, fun h => by revert h; decide⟩

/-- With no trail kept, a lead one beyond that of the youngest tracked item is legal. -/
theorem gapClear_trailLost : (trailLost 999).GapClear 1000 :=
  ⟨fun p h => by revert h; simp [trailLost, tracking, State.withList], fun _ r h => by
    have : (trailLost 999).tracking.list.getLast? = some { record 1 with lead := 999 } := by decide
    obtain rfl := Option.some.inj (this.symm.trans h)
    decide⟩

theorem test_witness_MeasuredItemIsInducted :
    (∀ s ∈ [measuring, tooClose, trailLost 999, trailLost 1000],
      s.induction.measurement = .measuring 1000 ∧
      (s.line.minLength : Int) ≤ Word.diff 1100 1000 ∧
      Word.diff 1100 1000 ≤ (s.line.maxLength : Int) ∧
      s.tracking.list.length + s.tracking.fatePending.length < 64 ∧
      s.Ahead ((1000 : Word).plus s.line.decision) ∧ s.Ahead ((1100 : Word).plus 65536)) ∧
      measuring.GapClear 1000 ∧ (trailLost 999).GapClear 1000 ∧
      (∃ p, tooClose.induction.prevTrail = some p ∧ 0 < Word.diff 1000 p ∧
        Word.diff 1000 p < (tooClose.line.minGap : Int)) ∧
      measuring.GapDiscards 900 ∧ (trailLost 1000).GapDiscards 1000 ∧
      64 ≤ (poolFull measuring).tracking.list.length +
        (poolFull measuring).tracking.fatePending.length := by
  refine ⟨?_, gapClear_measuring, gapClear_trailLost, ⟨900, by decide⟩, .inl ⟨900, by decide⟩,
    .inr ⟨by decide, { record 1 with lead := 1000 }, by decide⟩, by decide⟩
  unfold State.Ahead; decide

/-- An edge that ends GAP_HOLD and brings POOL_HOLD hands on neither INFEED_GO nor INFEED_HOLD. -/
theorem test_one_choice_at_an_edge :
    let s : State := { inBelt .run measuring with
      infeed := { enable := true, state := .gapHold, holdPool := false, holdJam := false
                  gapRelease := some { pos := 2000, reached := false } }
      line := otherLine
      tracking := { Tracking.reset with fatePending := List.replicate 60 (record 1) }
      events := { EventUnit.reset with enabled := Vector.replicate 84 true } }
    let t := handEdge .entryEye false 1100 s
    t.infeed.state = .poolHold ∧ t.infeed.gapRelease = none ∧ t.events.entries = s.events.entries ∧
      t.tracking.list.length = 1 := by decide +kernel


theorem test_short_gap_and_full_pool :
    (handEdge .entryEye false 1100 tooClose).tracking.list.map (fun r => (r.item, r.shortGap)) =
      [(1, true)] ∧
      (handEdge .entryEye false 1100 (trailLost 1000)).faults.first = some .gapShort ∧
      (handEdge .entryEye false 1100 (poolFull measuring)).faults.first = some .poolExhausted ∧
      (handEdge .entryEye false 1100 (poolFull measuring)).induction.prevTrail = some 1100 := by
  decide +kernel

theorem test_lineConfig_is_stored :
    answer .lineConfig 0x08 otherLine.bytes .reset = some (.ok, otherLine.bytes) ∧
      (after .lineConfig (ready 0x08 otherLine.bytes .reset)).line = otherLine ∧
      answer .lineConfig 0x08 otherLine.bytes (inBelt .run .reset) = some (.badState, []) := by
  decide +kernel

/-- A LINE_CONFIG that keeps the filter time keeps a candidate that has held for it; one that sets it to 0
accepts it. -/
theorem test_lineConfig_and_a_candidate :
    let s := standing .entryEye 4 2 true .reset
    let direct := { otherLine with filterTime := 0 }
    ((after .lineConfig (ready 0x08 otherLine.bytes s)).sensor .entryEye).candidate =
      some { stamp := 4, held := 2, due := true } ∧
      ((after .lineConfig (ready 0x08 direct.bytes s)).sensor .entryEye).accepted = true := by
  decide +kernel

theorem test_witness_LineConfigTakesEffect :
    (ready 0x08 otherLine.bytes (inBelt .run .reset)).Ready (frameOf 0x08 otherLine.bytes) ∧
      parseLineConfig otherLine.bytes = some otherLine ∧
      (inBelt .run .reset).belt.state ≠ .stopped ∧
      (ready 0x08 otherLine.bytes measuring).Ready (frameOf 0x08 otherLine.bytes) ∧
      measuring.belt.state = .stopped ∧ 0 < otherLine.filterTime ∧
      State.reset.induction.measurement = .clear ∧
      measuring.induction.measurement = .measuring 1000 ∧
      measuring.Ahead ((1000 : Word).plus (otherLine.maxLength + 1)) ∧
      (inMeasurement .jammed .reset).induction.measurement = .jammed ∧
      (inMeasurement (.unmeasured 0xFFFFF000) .reset).induction.measurement =
        .unmeasured 0xFFFFF000 ∧
      ¬ State.reset.Ahead ((0xFFFFF000 : Word).plus (otherLine.maxLength + 1)) ∧
      parseLineConfig { otherLine with filterTime := 0 }.bytes =
        some { otherLine with filterTime := 0 } := by
  unfold State.Ready State.Ahead; decide +kernel

/-! ## Belt drive and infeed -/

theorem test_beltTick_ramps :
    (after .beltTick { State.reset with belt := { BeltDrive.reset with
      state := .accel, target := 60, reference := 10000 } }).belt.state = .run ∧
      (after .beltTick { State.reset with belt := { BeltDrive.reset with
        state := .accel, target := 60, reference := 9999 } }).belt.reference = 59999 := by
  decide +kernel

theorem test_standstill_stops :
    (after .standstill { State.reset with belt := { BeltDrive.reset with
      state := .brake, standstillTimer := 100 } }).belt.state = .stopped := by decide +kernel

theorem test_encoderStall_stops :
    (after .encoderStall { State.reset with belt := { BeltDrive.reset with
      state := .run, reference := 1, stallTime := 10, stallTimer := 10 } }).belt.state = .brake := by
  decide +kernel

/-- A deviation of two counts: an occurrence above a limit of 1, none at a limit of 2. -/
theorem test_beltTick_watches_the_slip :
    let s (limit : Nat) : State := { State.reset with belt := { BeltDrive.reset with
      state := .run, target := 1, reference := 1000, referenceTravel := 1999000
      deviationLimit := limit } }
    (after .beltTick (s 1)).faults.first = some .beltSlip ∧
      (after .beltTick (s 2)).faults.first = none ∧ (after .beltTick (s 2)).belt.deviation = 2 := by
  decide +kernel

theorem test_witness_TickRampsAndCounts :
    State.reset.resetHold = none ∧ ∃ s : State, s.resetHold = none ∧ s.position.speedDue = true :=
  ⟨rfl, { State.reset with position := { State.reset.position with speedDue := true } }, rfl, rfl⟩

theorem test_witness_StandstillAndStall :
    (∃ s : State, s.resetHold = none ∧ (s.belt.state = .decel ∨ s.belt.state = .brake) ∧
      s.belt.standstillTimer = 100) ∧
    ∀ raised : Bool, ∃ s : State, s.resetHold = none ∧ 0 < s.belt.stallTime ∧
      s.belt.stallTime ≤ s.belt.stallTimer ∧ 0 < s.belt.reference ∧
      (s.belt.state ≠ .stopped ∧ s.belt.state ≠ .brake) ∧ s.belt.stallRaised = raised :=
  ⟨⟨{ State.reset with belt := { BeltDrive.reset with state := .decel, standstillTimer := 100 } },
     by decide⟩,
   fun raised => ⟨{ State.reset with belt := { BeltDrive.reset with
      state := .run, reference := 1, stallTime := 10, stallTimer := 10, stallRaised := raised } },
     by cases raised <;> decide⟩⟩

/-- BELT_CONFIG 1000, 2000000, 65535, 10: each field at an end of its range. -/
def beltPayload : List Byte := leBytes 4 1000 ++ leBytes 4 2000000 ++ leBytes 2 65535 ++ leBytes 2 10

theorem test_beltConfig_answers :
    answer .beltConfig 0x10 beltPayload .reset = some (.ok, beltPayload) ∧
      answer .beltConfig 0x10 [] .reset =
        some (.ok, [0x50, 0xC3, 0, 0, 0x50, 0xC3, 0, 0, 0, 0, 0, 0]) := by decide +kernel

/-- A speed of 200,000, the greatest. -/
def speedPayload : List Byte := leBytes 4 200000

/-- Lane 3 ENABLED with a window that closes at the run-out distance. -/
def badLane : State := { laneUp with line := { LineConfig.reset with runout := 6400 } }

theorem test_beltStart_checks :
    answer .beltStart 0x11 speedPayload .reset = some (.ok, []) ∧
      answer .beltStart 0x11 speedPayload badLane = some (.badState, [2, 3, 0xFF]) ∧
      answer .beltStart 0x11 speedPayload (latched .beltSlip .reset) = some (.faultActive, []) := by
  decide +kernel

theorem test_witness_BeltStartChecksInOrder :
    (∀ s ∈ [inBelt .run .reset, latched .estop .reset, badLane, laneUp],
      (ready 0x11 speedPayload s).Ready (frameOf 0x11 speedPayload)) ∧
      parseSpeed speedPayload = some 200000 ∧ (inBelt .run .reset).belt.state ≠ .stopped ∧
      (latched .estop .reset).belt.state = .stopped ∧
      (latched .estop .reset).stoppingFault = true ∧
      badLane.belt.state = .stopped ∧ badLane.stoppingFault = false ∧
      badLane.configurationCheck = some { code := 2, lane := some 3, group := none } ∧
      laneUp.stoppingFault = false ∧ laneUp.configurationCheck = none := by
  unfold State.Ready; decide +kernel

/-- The belt in a state with a reference speed of 200,000 counts per second. -/
def atFull (b : BeltState) : State :=
  { State.reset with belt := { BeltDrive.reset with state := b, target := 200000, reference := 200000000 } }

theorem test_beltSpeed_sets_the_state :
    (after .beltSpeed (ready 0x12 (leBytes 4 100) (atFull .run))).belt.state = .slow ∧
      (after .beltSpeed (ready 0x12 speedPayload (atFull .accel))).belt.state = .run := by
  decide +kernel

theorem test_witness_BeltConfigAndSpeed :
    let outOfRange := leBytes 4 1000 ++ leBytes 4 1000 ++ leBytes 2 0 ++ leBytes 2 9
    (ready 0x10 [] .reset).Ready (frameOf 0x10 []) ∧
      (∀ p ∈ [beltPayload, outOfRange], (ready 0x10 p .reset).Ready (frameOf 0x10 p)) ∧
      beltPayload = leBytes 4 1000 ++ leBytes 4 2000000 ++ leBytes 2 65535 ++ leBytes 2 10 ∧
      ¬ (9 = 0 ∨ 10 ≤ 9 ∧ 9 ≤ 2000) ∧ (10 = 0 ∨ 10 ≤ 10 ∧ 10 ≤ 2000) ∧
      State.reset.belt.state = .stopped ∧
      (ready 0x10 beltPayload (inBelt .slow .reset)).Ready (frameOf 0x10 beltPayload) ∧
      (inBelt .slow .reset).belt.state ≠ .stopped ∧
      speedPayload = leBytes 4 200000 ∧
      (∀ b ∈ [BeltState.accel, .run, .slow, .decel],
        (ready 0x12 speedPayload (atFull b)).Ready (frameOf 0x12 speedPayload)) ∧
      (∀ p ∈ [leBytes 4 0, leBytes 4 1, leBytes 4 200001],
        (ready 0x12 p (atFull .run)).Ready (frameOf 0x12 p)) ∧
      ¬ (1 ≤ 0 ∧ 0 ≤ 200000) ∧ ¬ (1 ≤ 200001 ∧ 200001 ≤ 200000) ∧
      (atFull .decel).belt.state = .decel ∧ (atFull .run).belt.state = .run ∧
      (inBelt .accel .reset).belt.reference < 1000 * 200000 ∧
      1000 * 1 < (atFull .run).belt.reference ∧ (atFull .run).belt.reference = 1000 * 200000 ∧
      (atFull .slow).belt.reference = 1000 * 200000 ∧ (atFull .slow).belt.state ≠ .run := by
  unfold State.Ready; decide +kernel

theorem test_beltStop_brakes :
    answer .beltStop 0x13 [1] (inBelt .run .reset) = some (.ok, [5]) ∧
      answer .beltStop 0x13 [0] .reset = some (.ok, [0]) ∧
      (after .beltStop (ready 0x13 [1] (inBelt .run .reset))).brakePin = true := by decide +kernel

theorem test_witness_BeltStopByModeAndState :
    (∀ p ∈ ([[0], [1], [2]] : List (List Byte)), ∀ b ∈ [BeltState.run, .stopped, .brake],
      (ready 0x13 p (inBelt b .reset)).Ready (frameOf 0x13 p)) ∧
      (inBelt .run .reset).belt.state = .run ∧ (inBelt .stopped .reset).belt.state.stopping ∧
      (inBelt .run .reset).belt.state ≠ .brake ∧ (inBelt .brake .reset).belt.state = .brake ∧
      (after .beltStop (ready 0x13 [1] (inBelt .run .reset))).belt.state = .brake := by
  unfold State.Ready; decide +kernel

theorem test_infeedSet_feeds :
    answer .infeedSet 0x18 [1] (inBelt .run .reset) = some (.ok, [5]) ∧
      answer .infeedSet 0x18 [1] .reset = some (.ok, [4]) := by decide +kernel

theorem test_witness_InfeedSetChoosesState :
    (ready 0x18 [flagByte true] .reset).Ready (frameOf 0x18 [flagByte true]) ∧
      (ready 0x18 [flagByte false] .reset).Ready (frameOf 0x18 [flagByte false]) := by
  unfold State.Ready; decide

theorem test_witness_InfeedStateKept :
    (inBelt .stopped .reset).InfeedChosen ∧ ∃ t, step State.reset = .next t := by
  unfold State.InfeedChosen
  exact ⟨by decide, _, rfl⟩

/-! ## Tracking -/

/-- The part at belt count 5000 with these records in the tracking list. -/
def list (rs : List Record) : State := atCount 5000 (laneUp.withList rs)

/-- A record whose decision trigger is reached. -/
def reached (item : Nat) : Record := { record item with decisionArm := .reached }

/-- A RUNOUT record whose run-out trigger is reached. -/
def atEnd (item : Nat) : Record :=
  { record item with state := .runout, reason := some .noRead, decisionNumber := some 1,
                     decisionArm := .off, runoutArm := .reached }

/-- A record RESERVED at lane 3. -/
def reserved (item : Nat) : Record :=
  { record item with state := .reserved, reason := some .direct, lane := some 3,
                     decisionNumber := some 1, firePos := some 7000, decisionArm := .off }

theorem test_decisionTrigger_runs_out :
    (after (.decisionTrigger 1) (list [reached 1])).tracking.list.map
      (fun r => (r.state, r.reason, r.decisionNumber, r.runoutArm)) =
        [(.runout, some .noRead, some 1, .armed)] := by decide +kernel

theorem test_decisionTrigger_takes_the_direct_lane :
    ((after (.decisionTrigger 1) (list [{ reached 1 with directLane := some 3 }])).lane 3).queue =
      [{ item := 1, diverting := false, firePos := 7000, openPos := 7100, closePos := 7400,
         fireArm := .armed, closeArm := .off }] := by decide +kernel

theorem test_runoutTrigger_passes_the_end :
    (after (.runoutTrigger 1) (list [atEnd 1])).tracking.fatePending.map (fun r => r.fate) =
      [some .passedEnd] := by decide +kernel

/-- A WAITING record whose decision is due. -/
def due (item : Nat) : Record := { record item with decisionDue := true, decisionArm := .off }

theorem test_due_decisions_follow :
    (after (.decisionTrigger 2) (list [reserved 1, reached 2, due 3, record 4])).tracking.list.map
      (fun r => (r.state, r.decisionNumber)) =
        [(.reserved, some 1), (.runout, some 1), (.runout, some 2), (.waiting, none)] := by
  decide +kernel

theorem test_witness_DecisionsGoInOrder :
    (list [record 1, reached 2]).resetHold = none ∧
      (list [record 1, reached 2]).ListHolds [record 1] (reached 2) [] ∧
      (record 1).state = .waiting ∧ (record 1).decisionDue = false ∧
      (reached 2).state = .waiting ∧ (reached 2).decisionArm = .reached ∧
      (list [reserved 1, reached 2, record 3]).resetHold = none ∧
      (list [reserved 1, reached 2, record 3]).ListHolds [reserved 1] (reached 2) [record 3] ∧
      (∀ x ∈ [reserved 1], x.state ≠ .waiting) ∧ (∀ x ∈ [record 3], x.decisionDue = false) ∧
      (reached 2).key = none ∧ (reached 2).directLane = none ∧
      (list [reserved 1, reached 2, record 3]).line.noRead = none ∧
      (reached 2).shortGap = false ∧
      (list [reserved 1, reached 2, record 3]).Ahead (reached 2).runoutPoint ∧
      ¬ (list [{ reached 2 with runoutPoint := 5000 }]).Ahead 5000 ∧
      (list [{ reached 2 with runoutPoint := 5000 }]).ListHolds []
        { reached 2 with runoutPoint := 5000 } [] := by
  unfold State.ListHolds State.Ahead; decide

theorem test_witness_DecisionsGoInOrder_due :
    let s := list [reserved 1, reached 2, due 3, record 4]
    s.resetHold = none ∧ s.tracking.list = [reserved 1] ++ reached 2 :: [due 3] ++ [record 4] ∧
      (s.tracking.list.map (·.item)).Nodup ∧ s.line.noRead = none ∧
      (∀ x ∈ [reserved 1], x.state ≠ .waiting) ∧ (reached 2).decisionArm = .reached ∧
      (∀ x ∈ reached 2 :: [due 3], s.RunsOutUnread x) ∧ (∀ x ∈ [due 3], x.decisionDue = true) ∧
      [record 4].find? (fun x => decide (x.state = .waiting)) = some (record 4) ∧
      (record 4).decisionDue = false := by
  unfold State.RunsOutUnread State.Ahead; decide

/-- A record that asks for lane 3. -/
def direct (item : Nat) : Record := { reached item with directLane := some 3 }

/-- A record with key 7. -/
def keyed (item : Nat) : Record := { reached item with key := some 7 }

/-- Lane 3 holds three entries, the last with its fire position one pitch before 7000. -/
def nearlyFull : State :=
  (list [direct 9]).withLane 3 { (laneUp.lane 3) with
    queue := [entry 1, entry 2, entry 3], lastFire := some 6500, lastFireExpiry := .armed }

/-- Lane 3 holds a DIVERTING entry alone, and the belt count is at the fire position it will offer. -/
def late : State :=
  atCount 7000 ((list [direct 9]).withLane 3 { (laneUp.lane 3) with queue := [fired 8] })

theorem test_witness_DecisionTakesTheSelection :
    nearlyFull.resetHold = none ∧ nearlyFull.ListHolds [] (direct 9) [] ∧
      (direct 9).state = .waiting ∧ (direct 9).decisionArm = .reached ∧
      (nearlyFull.select (direct 9)).lane = some 3 ∧
      nearlyFull.Ahead ((direct 9).lead.plus (nearlyFull.lane 3).geometry.fireDistance) ∧
      nearlyFull.Ahead
        (((direct 9).lead.plus (nearlyFull.lane 3).geometry.fireDistance).plus 65536) ∧
      (list [reserved 1, keyed 2, record 3]).resetHold = none ∧
      (list [reserved 1, keyed 2, record 3]).ListHolds [reserved 1] (keyed 2) [record 3] ∧
      (∀ x ∈ [reserved 1], x.state ≠ .waiting) ∧ (∀ x ∈ [record 3], x.decisionDue = false) ∧
      (keyed 2).state = .waiting ∧ (keyed 2).decisionArm = .reached ∧
      ((list [reserved 1, keyed 2, record 3]).select (keyed 2)).lane = none ∧
      (list [reserved 1, keyed 2, record 3]).Ahead (keyed 2).runoutPoint ∧
      (atCount 1001000 (list [keyed 2])).ListHolds [] (keyed 2) [] ∧
      ((atCount 1001000 (list [keyed 2])).select (keyed 2)).lane = none ∧
      ¬ (atCount 1001000 (list [keyed 2])).Ahead (keyed 2).runoutPoint ∧
      late.resetHold = none ∧ late.ListHolds [] (direct 9) [] ∧
      (late.select (direct 9)).lane = some 3 ∧
      ¬ late.Ahead ((direct 9).lead.plus (late.lane 3).geometry.fireDistance) ∧
      late.Ahead (((direct 9).lead.plus (late.lane 3).geometry.fireDistance).plus 65536) ∧
      (∀ e ∈ (late.lane 3).queue, e.diverting = true) ∧ (late.lane 3).queue ≠ [] := by
  unfold State.ListHolds State.Ahead; decide +kernel

/-- A reservation accepted after its fire position has been passed fires at once. -/
theorem test_late_reservation_fires :
    let t := after (.decisionTrigger 9) late
    (t.lane 3).queue.map (fun e => (e.item, e.diverting)) = [(8, true), (9, true)] ∧
      (t.lane 3).phase = .extend ∧ t.tracking.list.map (·.state) = [.diverting] := by decide +kernel

/-- With key 7 routed to lane 3 and group 7 as every fallback group. -/
def routed (target : Target) (s : State) : State :=
  { s with
    routes := { RouteTable.reset with
      entries := RouteTable.reset.entries.set 5 { route 7 with target := target } }
    line := { s.line with
      noRead := some 7, noRoute := some 7, overflow := some 7, rejectLane := some 3 } }

/-- The same with the class of GAP_SHORT at RECOVER. -/
def sorting (s : State) : State :=
  inSource .gapShort (fun x => { x with cls := .recover }) (routed (.lane 3) s)

theorem test_decision_of_a_keyed_item :
    let s := routed (.group 7) (list [keyed 1])
    ((after (.decisionTrigger 1) s).lane 3).queue.map (·.item) = [1] ∧
      (after (.decisionTrigger 1) s).tracking.list.map (fun r => (r.reason, r.route)) =
        [(some .routed, some 5)] ∧
      (after (.decisionTrigger 1) s).cursors[(7 : Fin 8)] = 3 ∧
      (after (.decisionTrigger 1) s).routes.entries[(5 : Fin 32)].hits = 1 := by decide +kernel

/-- Each clause: a state and an item that meet it, with what is then chosen. -/
theorem test_witness_SelectionByCase :
    let up := routed (.lane 3) laneUp
    let down := routed (.lane 3) .reset
    let bare : State := { laneUp with line := LineConfig.reset }
    let toGroup := routed (.group 7) laneUp
    let short : Record := { record 1 with shortGap := true }
    (direct 1).directLane = some 3 ∧
      up.offerAccepted 1000 3 = true ∧ down.offerAccepted 1000 3 = false ∧
      short.directLane = none ∧ short.shortGap = true ∧
      ((sorting laneUp).source .gapShort).cls = .recover ∧
      (sorting laneUp).line.rejectLane = some 3 ∧
      (record 1).directLane = none ∧ (record 1).shortGap = false ∧ (record 1).key = none ∧
      bare.line.noRead = none ∧ up.line.noRead = some 7 ∧ up.search 1000 7 = some 3 ∧
      down.search 1000 7 = none ∧ (keyed 1).key = some 7 ∧ (keyed 1).directLane = none ∧
      bare.routes.lookup 7 bare.routes.plan = none ∧ bare.line.noRoute = none ∧
      { up with routes := RouteTable.reset }.routes.lookup 7 0 = none ∧ up.line.noRoute = some 7 ∧
      up.routes.lookup 7 up.routes.plan = some 5 ∧
      up.routes.entries[(5 : Fin 32)].target = .lane 3 ∧
      toGroup.routes.lookup 7 toGroup.routes.plan = some 5 ∧
      toGroup.routes.entries[(5 : Fin 32)].target = .group 7 ∧
      up.line.overflow = some 7 ∧ bare.line.overflow = none ∧
      { bare with line := { bare.line with rejectLane := some 3 } }.offerAccepted 1000 3 = true ∧
      bare.line.rejectLane = none := by decide +kernel

theorem test_fences_complete_in_list_order :
    let fence (tag : Byte) (remaining : Nat) : Fence :=
      { tag, scope := .all, boundary := 2, covered := 2, remaining }
    let s := { list [record 2, atEnd 1] with tracking := { (list [record 2, atEnd 1]).tracking with
      fences := [fence 5 1, fence 6 2, fence 7 1] } }
    (after (.runoutTrigger 1) s).link.replies.map (·.tag) = [5, 7] ∧
      (after (.runoutTrigger 1) s).tracking.fences.map (fun e => (e.tag, e.remaining)) = [(6, 1)] := by
  decide +kernel

theorem test_witness_RunoutPassesTheEnd :
    (list [record 1, atEnd 2]).resetHold = none ∧
      (list [record 1, atEnd 2]).ListHolds [record 1] (atEnd 2) [] ∧
      (atEnd 2).state = .runout ∧ (atEnd 2).runoutArm = .reached ∧
      (list [reserved 1]).ListHolds [] (reserved 1) [] ∧
      (list [reserved 1]).Ahead (reserved 1).runoutPoint ∧
      ¬ (atCount 1001000 (list [reserved 1])).Ahead (reserved 1).runoutPoint ∧
      (∀ n ∈ [1, 65472, 65471, 65535], 1 ≤ n ∧ n ≤ 65535) ∧
      atOrBefore 65472 65535 = true ∧ atOrBefore 65471 65535 = false ∧
      atOrBefore 65535 1 = true ∧ atOrBefore 1 65535 = false := by
  unfold State.ListHolds State.Ahead; decide

/-- A MISSED and a DIVERTED item keep their lane, and the confirm offset stands in the report. -/
theorem test_fates_are_reported :
    (giveFate 1 .diverted (some 150) (list [reserved 1])).link.itemReports.getLast? =
      some (.fate { item := 1, fate := .diverted, lane := some 3, reason := some .direct, route := none,
                    key := none, decisionNumber := 1, confirmOffset := some 150 }) := by decide +kernel

/-- One fate-pending item, MISSED. -/
def gone (item : Nat) : State :=
  { State.reset with tracking := { Tracking.reset with
    fatePending := [{ record item with fate := some .missed }] } }

theorem test_assign_answers :
    answer .assign 0x20 [1, 0, 7, 0, 0, 0] (list [record 1]) = some (.ok, [1, 0, 0, 0]) ∧
      answer .assign 0x20 [2, 0, 7, 0, 0, 0] (list [record 1]) =
        some (.notFound, [2, 0, 0xFF, 0xFF]) ∧
      answer .assignLane 0x21 [1, 0, 3] (list [reserved 1]) = some (.tooLate, [1, 0, 0, 1]) ∧
      answer .assignLane 0x21 [1, 0, 3] (gone 1) = some (.tooLate, [1, 0, 1, 1]) := by
  decide +kernel

/-- ASSIGN of item 1 with key 7. -/
def assignPayload : List Byte := [1, 0, 7, 0, 0, 0]

theorem test_witness_AssignReplacesTheRequest :
    (∀ r ∈ [record 1, reserved 1], (ready 0x20 assignPayload (list [r])).Ready
        (frameOf 0x20 assignPayload) ∧
      (ready 0x21 [1, 0, 3] (list [r])).Ready (frameOf 0x21 [1, 0, 3]) ∧
      (list [r]).ListHolds [] r [] ∧ r.item = 1) ∧
      parseAssign assignPayload = some (1, some 7) ∧ parseAssignLane [1, 0, 3] = some (1, 3) ∧
      (record 1).state = .waiting ∧ (reserved 1).state ≠ .waiting ∧
      (ready 0x20 assignPayload .reset).Ready (frameOf 0x20 assignPayload) ∧
      (ready 0x21 [1, 0, 3] .reset).Ready (frameOf 0x21 [1, 0, 3]) ∧
      (∀ x ∈ State.reset.tracking.list, x.item ≠ 1) ∧
      (∀ x ∈ State.reset.tracking.fatePending, x.item ≠ 1) ∧
      (ready 0x20 assignPayload (gone 1)).Ready (frameOf 0x20 assignPayload) ∧
      (∀ x ∈ (gone 1).tracking.list, x.item ≠ 1) ∧
      (gone 1).tracking.fatePending = [] ++ { record 1 with fate := some .missed } :: [] := by
  unfold State.Ready State.ListHolds; decide

/-- Item 1 RESERVED at lane 3, which holds its entry behind a DIVERTING one. -/
def reservedState : State :=
  (list [reserved 1]).withLane 3 { (laneUp.lane 3) with queue := [fired 8, entry 1] }

theorem test_cancel_answers :
    answer .cancel 0x22 [1, 0] (list [record 1]) = some (.ok, [1, 0, 0, 0, 3]) ∧
      answer .cancel 0x22 [1, 0] (list [atEnd 1]) = some (.ok, [1, 0, 1, 0, 3]) ∧
      answer .cancel 0x22 [0, 0] (list [record 1]) = some (.badArg, []) := by decide +kernel

theorem test_witness_CancelByItemState :
    (∀ r ∈ [record 1, reserved 1, atEnd 1, { record 1 with state := .diverting }],
      (ready 0x22 [1, 0] (list [r])).Ready (frameOf 0x22 [1, 0]) ∧ (list [r]).ListHolds [] r [] ∧
        parseItem [1, 0] = some r.item ∧ (list [r]).Ahead r.runoutPoint) ∧
      (record 1).state = .waiting ∧ (atEnd 1).state = .runout ∧
      (∀ x ∈ ([] : List Record), x.decisionDue = false) ∧
      (ready 0x22 [1, 0] (list [record 1, due 2, record 3])).Ready (frameOf 0x22 [1, 0]) ∧
      (list [record 1, due 2, record 3]).ListHolds [] (record 1) ([due 2] ++ [record 3]) ∧
      ((list [record 1, due 2, record 3]).tracking.list.map (·.item)).Nodup ∧
      (list [record 1, due 2, record 3]).RunsOutUnread (due 2) ∧
      (ready 0x22 [1, 0] reservedState).Ready (frameOf 0x22 [1, 0]) ∧
      reservedState.ListHolds [] (reserved 1) [] ∧ (reserved 1).state = .reserved ∧
      (reserved 1).lane = some 3 ∧ reservedState.Ahead (reserved 1).runoutPoint ∧
      (reservedState.lane 3).queue = [fired 8] ++ entry 1 :: [] ∧
      (entry 1).item = (reserved 1).item ∧
      (entry 1).diverting = false ∧ (∀ x ∈ [fired 8] ++ [], x.item ≠ (reserved 1).item) ∧
      (ready 0x22 [1, 0] (gone 1)).Ready (frameOf 0x22 [1, 0]) ∧
      (∀ x ∈ (gone 1).tracking.list, x.item ≠ 1) ∧
      (gone 1).tracking.fatePending = [] ++ { record 1 with fate := some .missed } :: [] ∧
      (ready 0x22 [1, 0] .reset).Ready (frameOf 0x22 [1, 0]) ∧
      (∀ x ∈ State.reset.tracking.list, x.item ≠ 1) ∧
      ∀ x ∈ State.reset.tracking.fatePending, x.item ≠ 1 := by
  unfold State.RunsOutUnread State.Ready State.ListHolds State.Ahead; decide

theorem test_trackRead_answers :
    answer .trackRead 0x23 [0xFF, 0xFF, 1] (list [reserved 1, record 2]) =
      some (.ok, [2, 1, 1, 1, 0, 1, 0, 0xE8, 3, 0, 0, 3, 1, 1, 2, 0]) ∧
      answer .trackRead 0x23 [3, 0, 1] (list [record 1]) = some (.notFound, []) := by decide +kernel

theorem test_itemRead_answers :
    (answer .itemRead 0x24 [1, 0] (list [record 1])).map (fun x => (x.1, x.2.length)) =
      some (.ok, 38) ∧
      answer .itemRead 0x24 [9, 0] (list [record 1]) = some (.notFound, []) := by decide +kernel

theorem test_witness_ItemReadsShowTheRecord :
    (ready 0x23 [0xFF, 0xFF, 16] (list [record 1])).Ready (frameOf 0x23 [0xFF, 0xFF, 16]) ∧
      parseTrackRead [0xFF, 0xFF, 16] = some (none, 16) ∧
      parseTrackRead [0xFF, 0xFF, 1] = some (none, 1) ∧
      (ready 0x24 [1, 0] (list [record 1])).Ready (frameOf 0x24 [1, 0]) ∧
      parseItem [1, 0] = some (record 1).item ∧ (list [record 1]).ListHolds [] (record 1) [] ∧
      (ready 0x23 [2, 0, 1] (list [reserved 1, record 2])).Ready (frameOf 0x23 [2, 0, 1]) ∧
      parseTrackRead [2, 0, 1] = some (some (record 2).item, 1) ∧
      (list [reserved 1, record 2]).ListHolds [reserved 1] (record 2) [] ∧
      (ready 0x23 [2, 0, 1] (gone 2)).Ready (frameOf 0x23 [2, 0, 1]) ∧
      (∀ x ∈ (gone 1).tracking.list, x.item ≠ 2) ∧
      (ready 0x24 [1, 0] (gone 1)).Ready (frameOf 0x24 [1, 0]) ∧
      (gone 1).tracking.fatePending = [] ++ { record 1 with fate := some .missed } :: [] ∧
      (ready 0x24 [1, 0] (gone 2)).Ready (frameOf 0x24 [1, 0]) ∧
      ∀ x ∈ (gone 2).tracking.fatePending, x.item ≠ 1 := by
  unfold State.Ready State.ListHolds; decide

theorem test_fence_waits :
    (after .fence (ready 0x25 [1] (list [reserved 1, record 2]))).tracking.fences =
      [{ tag := 0x11, scope := .decided, boundary := 1, covered := 1, remaining := 1 }] ∧
      answer .fence 0x25 [0] .reset = some (.ok, [0, 0xFF, 0xFF, 0, 0]) := by decide +kernel

/-- With live numbers 1 and 70, the fence at item 70 covers item 70 alone, and it completes. -/
theorem test_fence_covers_63_steps :
    let s := after .fence (ready 0x25 [0] (list [atEnd 1, record 70]))
    s.tracking.fences.map (fun e => (e.boundary, e.covered)) = [(70, 1)] ∧
      (after (.runoutTrigger 1) s).tracking.fences.map (·.remaining) = [1] := by decide +kernel

/-- Four fences outstanding beside one tracked item. -/
def fourFences : State :=
  { list [record 1] with tracking := { (list [record 1]).tracking with
    fences := List.replicate 4
      { tag := 5, scope := .all, boundary := 1, covered := 1, remaining := 1 } } }

theorem test_witness_FenceByCase :
    (∀ p ∈ ([[0], [1]] : List (List Byte)), ∀ s ∈ [State.reset, list [reserved 1], fourFences],
      (ready 0x25 p s).Ready (frameOf 0x25 p)) ∧
      FenceScope.all.code = 0 ∧ FenceScope.decided.code = 1 ∧
      State.reset.tracking.list = [] ∧
      ((list [reserved 1]).tracking.list.takeWhile fun r => r.state ≠ .waiting) =
        [] ++ [reserved 1] ∧
      (list [reserved 1]).tracking.fences.length < 4 ∧
      fourFences.tracking.list = [] ++ [record 1] ∧ fourFences.tracking.fences.length = 4 := by
  unfold State.Ready; decide

/-! ## Route table and selector -/

/-- Key 7 under plan 0 to lane 3, locked. -/
def writePayload : List Byte := routePayload 7 0 0 false (.lane 3) true

theorem test_routeWrite_answers :
    answer .routeWrite 0x28 (2 :: writePayload) .reset =
      some (.ok, [2, 1, 7, 0, 0, 0, 0, 0, 0, 0, 0, 0, 0, 3, 1, 0, 0]) ∧
      answer .routeWrite 0x28 (2 :: writePayload) (inRoutes (fullTable false) .reset) =
        some (.overlap, [7]) := by decide +kernel

theorem test_routeWriteNext_answers :
    answer .routeWriteNext 0x29 writePayload .reset =
      some (.ok, [0, 0, 1, 7, 0, 0, 0, 0, 0, 0, 0, 0, 0, 0, 3, 1, 0, 0]) ∧
      answer .routeWriteNext 0x29 writePayload (inRoutes (fullTable true) .reset) =
        some (.full, []) := by decide +kernel

/-- Every entry valid and locked but the one at 9, with the cursor at 4. -/
def oneUnlocked : RouteTable :=
  { fullTable true with
    entries := (fullTable true).entries.set 9 { route 9 with locked := false }, cursor := 4 }

theorem test_routeWriteNext_passes_locked_entries :
    (answer .routeWriteNext 0x29 writePayload (inRoutes oneUnlocked .reset)) =
      some (.overlap, [7]) ∧
      (answer .routeWriteNext 0x29 (routePayload 32 0 0 false (.lane 3) true)
        (inRoutes oneUnlocked .reset)).map (fun x => (x.1, x.2.take 2)) = some (.ok, [9, 1]) := by
  decide +kernel

/-- The entry that `writePayload` with key 32 spells: no entry of the full table overlaps it. -/
def newRoute : RouteEntry := { route 32 with locked := true }

theorem test_witness_RouteWritesByOverlap :
    let p := routePayload 32 0 0 false (.lane 3) true
    (ready 0x28 (31 :: p) (inRoutes (fullTable false) .reset)).Ready (frameOf 0x28 (31 :: p)) ∧
      parseRouteWrite (31 :: p) = some (31, newRoute) ∧
      (∀ j : Fin 32, j ≠ 31 → (fullTable false).entries[j].overlaps newRoute = false) ∧
      parseRouteWrite (2 :: writePayload) = some (2, { route 7 with locked := true }) ∧
      (7 : Fin 32) ≠ 2 ∧ (fullTable false).entries[(7 : Fin 32)].valid = true ∧
      (fullTable false).entries[(7 : Fin 32)].overlaps { route 7 with locked := true } = true ∧
      (∀ k : Fin 32, k < 7 → k ≠ 2 →
        (fullTable false).entries[k].overlaps { route 7 with locked := true } = false) ∧
      (∀ s ∈ [State.reset, inRoutes oneUnlocked .reset, inRoutes (fullTable true) .reset],
        (ready 0x29 p s).Ready (frameOf 0x29 p)) ∧
      parseRouteWriteNext p = some newRoute ∧
      State.reset.routes.entries[(0 : Fin 32)].valid = false ∧
      (∀ j : Fin 32, State.reset.routes.entries[j].valid = false) ∧
      (∀ k : Fin 32, oneUnlocked.entries[k].valid = true) ∧
      oneUnlocked.entries[(9 : Fin 32)].locked = false ∧
      (∀ k : Fin 32, k - oneUnlocked.cursor < 9 - oneUnlocked.cursor →
        oneUnlocked.entries[k].locked = true) ∧
      (∀ j : Fin 32, j ≠ 9 → oneUnlocked.entries[j].overlaps newRoute = false) ∧
      oneUnlocked.entries[(7 : Fin 32)].overlaps { route 7 with locked := true } = true ∧
      (∀ k : Fin 32, k < 7 →
        oneUnlocked.entries[k].overlaps { route 7 with locked := true } = false) ∧
      ∀ k : Fin 32, (fullTable true).entries[k].valid = true ∧
        (fullTable true).entries[k].locked = true := by
  unfold State.Ready; decide +kernel

theorem test_witness_RouteEntriesStayApart :
    (inRoutes (fullTable false) .reset).RoutesApart ∧ ∃ t, step State.reset = .next t := by
  unfold State.RoutesApart
  exact ⟨by decide +kernel, _, rfl⟩

theorem test_routeProbe_answers :
    answer .routeProbe 0x2B [7, 0, 0, 0, 0xFF] (inRoutes (fullTable false) .reset) =
      some (.ok, [0, 7, 0, 3]) ∧
      answer .routeProbe 0x2B [7, 0, 0, 0, 1] (inRoutes (fullTable false) .reset) =
        some (.notFound, [1]) := by decide +kernel

theorem test_witness_OneEntryMatches :
    (inRoutes (fullTable false) .reset).RoutesApart ∧
      (ready 0x2B [7, 0, 0, 0, 0xFF] .reset).Ready (frameOf 0x2B [7, 0, 0, 0, 0xFF]) ∧
      parseRouteProbe [7, 0, 0, 0, 0xFF] = some (7, none) ∧
      parseRouteProbe [0xFF, 0xFF, 0xFF, 0, 15] = some (0xFFFFFF, some 15) := by
  unfold State.RoutesApart State.Ready; decide +kernel

theorem test_routeRead_answers :
    answer .routeRead 0x2A [7] (inRoutes (fullTable false) .reset) =
      some (.ok, [1, 7, 0, 0, 0, 0, 0, 0, 0, 0, 0, 0, 3, 0, 0, 0]) ∧
      answer .routeRead 0x2A [0xFF] (inRoutes (fullTable false) .reset) =
        some (.ok, [0, 0, 32, 0, 0xFF, 0xFF, 0xFF, 0xFF, 0, 0, 0, 0]) := by decide +kernel

theorem test_routeClear_answers :
    answer .routeClear 0x2C [0x20] (inRoutes (fullTable true) .reset) = some (.ok, [0]) ∧
      answer .routeClear 0x2C [0x21] (inRoutes (fullTable true) .reset) = some (.ok, [32]) := by
  decide +kernel

theorem test_planSelect_answers :
    answer .planSelect 0x2D [15] .reset = some (.ok, [0, 15]) ∧
      answer .planSelect 0x2D [16] .reset = some (.badArg, []) := by decide +kernel

/-- Lane 3 into groups 0 and 6. -/
def groupPayload : List Byte := [3, 0, 6, 0xFF, 0xFF]

theorem test_groupSet_answers :
    answer .groupSet 0x30 groupPayload .reset =
      some (.ok, [3, 0, 6, 0xFF, 0xFF, 0b11000001]) ∧
      answer .groupSet 0x30 [3, 7, 0xFF, 0xFF, 0xFF] .reset = some (.badArg, []) := by decide +kernel

theorem test_witness_ClearPlanAndGroups :
    (ready 0x2C [byteOf 31] .reset).Ready (frameOf 0x2C [byteOf 31]) ∧
      (ready 0x2C [0x20] .reset).Ready (frameOf 0x2C [0x20]) ∧
      (ready 0x2C [0x21] .reset).Ready (frameOf 0x2C [0x21]) ∧
      (ready 0x2D [byteOf 15] .reset).Ready (frameOf 0x2D [byteOf 15]) ∧
      (ready 0x30 groupPayload .reset).Ready (frameOf 0x30 groupPayload) ∧
      parseGroupSet groupPayload = some (3, #v[some 0, some 6, none, none]) := by
  unfold State.Ready; decide

theorem test_groupRead_answers :
    answer .groupRead 0x31 [6] (after .groupSet (ready 0x30 groupPayload .reset)) =
      some (.ok, [6, 1, 3, 15, 0, 0, 0]) ∧
      answer .groupRead 0x31 [8] .reset = some (.badArg, []) := by decide +kernel

theorem test_witness_IdentifyRouteAndGroupReads :
    (ready 0x01 [] .reset).Ready (frameOf 0x01 []) ∧
      (ready 0x01 [0] .reset).Ready (frameOf 0x01 [0]) ∧
      (ready 0x2A [byteOf 31] .reset).Ready (frameOf 0x2A [byteOf 31]) ∧
      (ready 0x2A [0xFF] .reset).Ready (frameOf 0x2A [0xFF]) ∧
      (ready 0x2A [32] .reset).Ready (frameOf 0x2A [32]) ∧
      (∀ i : Fin 32, [32] ≠ [byteOf i.val]) ∧ ([32] : List Byte) ≠ [0xFF] ∧
      (ready 0x31 [byteOf 7] .reset).Ready (frameOf 0x31 [byteOf 7]) ∧
      (ready 0x31 [8] .reset).Ready (frameOf 0x31 [8]) ∧ ∀ g : Fin 8, [8] ≠ [byteOf g.val] := by
  unfold State.Ready; decide

theorem test_witness_SearchGoesRoundRobin :
    laneUp.search 1000 7 = some 3 ∧ State.reset.search 1000 7 = none ∧
      (∃ m ∈ laneUp.members 7, laneUp.offerAccepted 1000 m = true ∧ m ≤ laneUp.cursors[(7 : Fin 8)]) ∧
      (nearlyFull.lane 3).accepts 7000 = true := by
  refine ⟨by decide +kernel, by decide +kernel, ⟨3, by decide +kernel⟩, by decide +kernel⟩

/-! ## Lanes -/

/-- Item 1 at lane 3 with its fire trigger reached, behind a DIVERTING entry. -/
def firing : State :=
  atCount 7000 (reservedState.withLane 3 { (laneUp.lane 3) with
    queue := [fired 8, { entry 1 with fireArm := .reached }] })

theorem test_fireTrigger_fires :
    ((after (.fireTrigger 3) firing).lane 3).phase = .extend ∧
      (after (.fireTrigger 3) firing).extendPin 3 = true ∧
      (after (.fireTrigger 3) firing).tracking.list.map (·.state) = [.diverting] := by decide +kernel

theorem test_fireTrigger_overruns :
    let s := after (.fireTrigger 3) (inLane 3 (fun u => { u with phase := .settle }) firing)
    (s.lane 3).queue = [fired 8] ∧ s.faults.first = some .diverterOverrun ∧
      s.tracking.list.map (·.reason) = [some .diverterBusy] := by decide +kernel

theorem test_witness_FireTriggerByPhase :
    let e : Entry := { entry 1 with fireArm := .reached }
    let busy := inLane 3 (fun u => { u with phase := .retract }) firing
    firing.resetHold = none ∧ (firing.lane 3).phase = .idle ∧
      (firing.lane 3).queue = [fired 8] ++ e :: [] ∧
      (∀ x ∈ [fired 8], x.diverting = true) ∧
      (∀ x ∈ [fired 8] ++ [], x.item ≠ e.item) ∧ e.diverting = false ∧ e.fireArm = .reached ∧
      firing.Ahead (e.firePos.plus (firing.lane 3).geometry.dwell) ∧ firing.Ahead e.closePos ∧
      ¬ (atCount 7200 firing).Ahead (e.firePos.plus (firing.lane 3).geometry.dwell) ∧
      (atCount 7200 firing).Ahead e.closePos ∧ ¬ (atCount 7400 firing).Ahead e.closePos ∧
      busy.ListHolds [] (reserved 1) [] ∧ (reserved 1).item = e.item ∧
      busy.Ahead (reserved 1).runoutPoint ∧
      busy.resetHold = none ∧ (busy.lane 3).phase ≠ .idle ∧
      (busy.lane 3).queue = [fired 8] ++ e :: [] := by
  unfold State.ListHolds State.Ahead; decide

/-- A fire past its own window close is a miss of that entry, not of an older one that has closed. -/
theorem test_fire_past_its_own_close :
    let closed : Entry := { fired 8 with closePos := 7000, closeArm := .reached }
    let s := atCount 7400 (inLane 3 (fun u => { u with
      queue := [closed, { entry 1 with fireArm := .reached }] }) firing)
    let t := after (.fireTrigger 3) s
    (t.lane 3).queue = [closed] ∧ t.tracking.fatePending.map (fun r => (r.item, r.fate)) =
      [(1, some .missed)] := by decide +kernel

/-- Lane 3 in a phase, with its dwell-end trigger reached. -/
def phased (p : DiverterPhase) (timer : Nat) : State :=
  inLane 3 (fun u => { u with
    phase := p, phaseTimer := timer, phaseLength := 20
    dwellEnd := some { pos := 7200, reached := true } }) laneUp

theorem test_phases_end :
    ((after (.dwellEnd 3) (phased .extend 0)).lane 3).phase = .retract ∧
      ((after (.retractEnd 3) (phased .retract 20)).lane 3).phase = .settle ∧
      ((after (.settleEnd 3) (phased .settle 20)).lane 3).phase = .idle ∧
      ((after (.settleEnd 3) (phased .settle 19)).lane 3).phase = .settle := by decide +kernel

/-- Lane 3 with every one of its timers run out. -/
def timedOut : State :=
  inLane 3 (fun u => { u with
    fullTimer := some 500, fullDue := true, jamTimer := some 100, jamDue := true
    lastFire := some 1, lastFireExpiry := .reached }) laneUp

theorem test_fullDelayExpiry_sets_full :
    ((after (.fullDelayExpiry 3) timedOut).lane 3).full = true := by decide +kernel

theorem test_laneJamExpiry_fences_the_lane :
    ((after (.laneJamExpiry 3) timedOut).lane 3).jam = true ∧
      ((after (.laneJamExpiry 3) timedOut).lane 3).state = .fenced := by decide +kernel

theorem test_lastFireExpiry_forgets :
    ((after (.lastFireExpiry 3) timedOut).lane 3).lastFire = none := by decide

theorem test_witness_LaneTimersAndPhases :
    (phased .extend 0).resetHold = none ∧
      ((phased .extend 0).lane 3).phase = .extend ∧
      ((phased .extend 0).lane 3).dwellEnd = some { pos := 7200, reached := true } ∧
      ((phased .retract 20).lane 3).phase = .retract ∧
      ((phased .retract 20).lane 3).phaseLength ≤ ((phased .retract 20).lane 3).phaseTimer ∧
      ((phased .settle 20).lane 3).phase = .settle ∧
      ((phased .settle 20).lane 3).phaseLength ≤ ((phased .settle 20).lane 3).phaseTimer ∧
      ((phased .retract 19).lane 3).phaseTimer < ((phased .retract 19).lane 3).phaseLength ∧
      (laneUp.lane 3).geometry.fullDelay ≠ 0 ∧ (State.reset.lane 3).geometry.fullDelay = 0 ∧
      timedOut.resetHold = none ∧ (timedOut.lane 3).fullDue = true ∧
      (timedOut.lane 3).jamDue = true ∧ (timedOut.lane 3).lastFireExpiry = .reached := by decide

/-- Item 1 DIVERTING at lane 3, its window closed. -/
def closing : State :=
  atCount 7400 ((list [{ reserved 1 with state := .diverting }]).withLane 3 { (laneUp.lane 3) with
    queue := [fired 8, { fired 1 with closeArm := .reached }] })

theorem test_windowCloseTrigger_misses :
    (after (.windowCloseTrigger 3) closing).tracking.fatePending.map (·.fate) = [some .missed] ∧
      (after (.windowCloseTrigger 3) closing).faults.first = some .divertMiss := by decide +kernel

theorem test_confirm_edge_diverts :
    (handEdge (.confirmEye 3) true 7150 closing).link.itemReports.length = 1 ∧
      ((handEdge (.confirmEye 3) true 7150 (inLane 3 (fun u => { u with queue := [fired 1] })
        closing)).tracking.fatePending.map fun r => (r.fate, r.confirmOffset)) =
          [(some .diverted, some 150)] := by decide +kernel

/-- Stamps 7100 and 7399 are the first and last in the window, 7099 and 7400 the nearest outside. -/
theorem test_witness_WindowEndsTheEntry :
    let e : Entry := { fired 1 with closeArm := .reached }
    let early : Entry := { fired 8 with openPos := 6900, closePos := 7100 }
    let s := inLane 3 (fun u => { u with queue := [early, fired 1] }) closing
    closing.resetHold = none ∧
      (closing.lane 3).queue = [fired 8] ++ e :: [] ∧
      (∀ x ∈ [fired 8], x.diverting = true → x.closeArm ≠ .reached) ∧
      (∀ x ∈ [fired 8] ++ [], x.item ≠ e.item) ∧ e.diverting = true ∧ e.closeArm = .reached ∧
      (s.lane 3).configured = true ∧ (s.lane 3).queue = [early] ++ fired 1 :: [] ∧
      (∀ x ∈ [early], x.diverting = true →
        Word.diff 7100 x.openPos < 0 ∨ 0 ≤ Word.diff 7100 x.closePos) ∧
      (∀ x ∈ [early] ++ [], x.item ≠ (fired 1).item) ∧
      (fired 1).diverting = true ∧ 0 ≤ Word.diff 7100 (fired 1).openPos ∧
      Word.diff 7399 (fired 1).closePos < 0 ∧ 0 ≤ Word.diff 7399 (fired 1).openPos ∧
      Word.diff 7100 (fired 1).closePos < 0 ∧
      Word.diff 7099 (fired 1).openPos < 0 ∧ 0 ≤ Word.diff 7400 (fired 1).closePos ∧
      (∀ x ∈ (s.lane 3).queue, x.diverting = true →
        Word.diff 7400 x.openPos < 0 ∨ 0 ≤ Word.diff 7400 x.closePos) ∧
      (State.reset.lane 3).configured = false := by decide

/-- LANE_CONFIG of lane 3. -/
def lanePayload : List Byte := byteOf 3 :: geometry.bytes

theorem test_laneConfig_answers :
    answer .laneConfig 0x38 lanePayload .reset = some (.ok, lanePayload) ∧
      ((after .laneConfig (ready 0x38 lanePayload .reset)).lane 3).configured = true ∧
      answer .laneConfig 0x38 lanePayload laneUp = some (.badState, []) := by decide +kernel

theorem test_witness_LaneConfigNeedsRest :
    (∀ s ∈ [State.reset, laneUp, inLane 3 (fun u => { u with state := .fenced }) .reset],
      (ready 0x38 lanePayload s).Ready (frameOf 0x38 lanePayload)) ∧
      parseLaneConfig lanePayload = some (3, geometry) ∧
      (State.reset.lane 3).state = .disabled ∧ State.reset.belt.state = .stopped ∧
      ((inLane 3 (fun u => { u with state := .fenced }) .reset).lane 3).state = .fenced ∧
      (laneUp.lane 3).state ≠ .disabled ∧ (laneUp.lane 3).state ≠ .fenced ∧
      (inBelt .run .reset).belt.state ≠ .stopped := by
  unfold State.Ready; decide

/-- Lane 3 configured, in a state. -/
def laneIn (x : LaneState) : State := inLane 3 (fun u => { enabled u with state := x }) .reset

theorem test_laneState_enable :
    answer .laneStateEnable 0x39 [3, 0] (laneIn .disabled) = some (.ok, [3, 0, 0xFF, 0]) ∧
      answer .laneStateEnable 0x39 [3, 0] (laneIn (.closing .fenced)) =
        some (.badState, [3, 2, 4, 0]) := by decide +kernel

theorem test_laneState_drain :
    answer .laneStateDrain 0x39 [3, 1] (laneIn .enabled) = some (.ok, [3, 3, 0xFF, 0]) ∧
      answer .laneStateDrain 0x39 [3, 1] reservedState = some (.ok, [3, 1, 0xFF, 2]) := by
  decide +kernel

theorem test_laneState_disable :
    answer .laneStateDisable 0x39 [3, 2] reservedState = some (.ok, [3, 2, 3, 1]) ∧
      (after .laneStateDisable (ready 0x39 [3, 2] reservedState)).tracking.list.map (·.reason) =
        [some .withdrawn] := by decide +kernel

/-- The fire distance must be above the decision distance 4,000, so a lane at 4,000 fails. -/
theorem test_witness_LaneStateRequests :
    let near := inLane 3 (fun u => { u with
      geometry := { geometry with fireDistance := 4000 } }) (laneIn .disabled)
    (∀ q ∈ ([[3, 0], [3, 1], [3, 2]] : List (List Byte)),
      ∀ s ∈ [laneIn .disabled, laneIn .enabled, laneIn (.closing .disabled), reservedState, closing,
        near, { badLane with lanes := near.lanes }],
        (ready 0x39 q s).Ready (frameOf 0x39 q)) ∧
      ((laneIn .disabled).lane 3).state = .disabled ∧ ((laneIn .disabled).lane 3).configured = true ∧
      (laneIn .disabled).line.decision < geometry.fireDistance ∧
      geometry.fireDistance + geometry.confirmClose < (laneIn .disabled).line.runout ∧
      ¬ near.line.decision < (near.lane 3).geometry.fireDistance ∧
      (near.lane 3).configured = true ∧
      ¬ geometry.fireDistance + geometry.confirmClose < badLane.line.runout ∧
      badLane.line.decision < geometry.fireDistance ∧ (State.reset.lane 3).configured = false ∧
      ((laneIn .enabled).lane 3).state = .enabled ∧ ((laneIn .enabled).lane 3).queue = [] ∧
      ((laneIn .enabled).lane 3).phase ≠ .extend ∧
      ((laneIn (.closing .disabled)).lane 3).state = .closing .disabled ∧
      (reservedState.lane 3).state = .enabled ∧ (reservedState.lane 3).queue ≠ [] ∧
      ((laneIn .draining).lane 3).state = .draining ∧ ((laneIn .fenced).lane 3).state = .fenced ∧
      reservedState.WithdrawnAhead 3 ∧ (laneIn .enabled).WithdrawnAhead 3 ∧
      (reservedState.lane 3).queue.filter (·.diverting) = [fired 8] := by
  unfold State.Ready State.WithdrawnAhead State.Ahead; decide +kernel

/-- A DRAINING lane whose last entry is confirmed is DISABLED, and a fenced one with an entry DIVERTING is
CLOSING. -/
theorem test_lane_exits :
    let s := inLane 3 (fun u => { u with state := .draining, queue := [fired 1] }) closing
    ((handEdge (.confirmEye 3) true 7150 s).lane 3).state = .disabled ∧
      ((fenceLane 3 reservedState).lane 3).state = .closing .fenced ∧
      (fenceLane 3 reservedState).tracking.list.map (·.reason) = [some .withdrawn] := by
  decide +kernel

theorem test_witness_LanesCloseAndExit :
    ((laneIn .draining).lane 3).state = .draining ∧ ((laneIn .draining).lane 3).queue = [] ∧
      ((laneIn .draining).lane 3).phase ≠ .extend ∧
      ((laneIn (.closing .fenced)).lane 3).state = .closing .fenced ∧
      ((laneIn (.closing .fenced)).lane 3).queue = [] ∧
      (reservedState.lane 3).state ≠ .draining ∧ (reservedState.lane 3).queue ≠ [] ∧
      (reservedState.lane 3).state = .enabled ∧ reservedState.WithdrawnAhead 3 ∧
      ((laneIn .disabled).lane 3).state = .disabled ∧ ((laneIn .fenced).lane 3).state = .fenced := by
  unfold State.WithdrawnAhead State.Ahead; decide +kernel

theorem test_witness_LaneStatesStaySettled :
    reservedState.LanesSettled ∧ ∃ t, step reservedState = .next t := by
  have h : ∀ l : LaneId, (reservedState.lane l).queue.length ≤ 4 ∧
      ((reservedState.lane l).state = .enabled ∨ (reservedState.lane l).state = .disabled ∧
        (reservedState.lane l).queue = [] ∧ (reservedState.lane l).phase ≠ .extend) := by
    decide +kernel
  refine ⟨fun l => ⟨(h l).1, ?_⟩, _, rfl⟩
  rcases (h l).2 with hs | ⟨hs, hq⟩
  · simp [hs]
  · simpa [hs] using hq

theorem test_laneRead_answers :
    (answer .laneRead 0x3A [3] reservedState).map (fun x => (x.1, x.2.length)) =
      some (.ok, 59) ∧
      answer .laneRead 0x3A [16] .reset = some (.badArg, []) := by decide +kernel

/-! ## Faults -/

/-- Source 11, DIVERT_MISS, latched by an occurrence at lane 3. -/
def missed : State :=
  { laneUp with faults := { (inSource .divertMiss (fun x => { x with
    latched := true, count := 254, laneSet := 8, latchLane := some 3 }) laneUp).faults with
      first := some .divertMiss } }

theorem test_faultRead_answers :
    (answer .faultRead 0x40 [] .reset).map (fun x => (x.1, x.2.length)) = some (.ok, 89) ∧
      (answer .faultRead 0x40 [] (latched .beltSlip .reset)).map (fun x => (x.2.drop 15).take 5) =
        some [1, 1, 0, 2, 0] := by decide +kernel

theorem test_faultClear_answers :
    answer .faultClear 0x41 [8, 0] (latched .beltSlip .reset) = some (.ok, [0, 0, 0xFF]) ∧
      answer .faultClear 0x41 [0, 0x80] .reset = some (.badArg, []) := by decide +kernel

theorem test_faultMask_answers :
    answer .faultMask 0x42 [8, 0, 0, 0] (latched .beltSlip .reset) =
      some (.ok, [8, 0, 8, 0, 0xFF]) ∧
      answer .faultMask 0x42 [0x40, 0, 0, 0] .reset = some (.badArg, []) := by decide +kernel

theorem test_faultAction_answers :
    answer .faultAction 0x43 [0, 2] (latched .linkFrame .reset) = some (.ok, [0, 0, 2, 1]) ∧
      answer .faultAction 0x43 [6, 0] .reset = some (.badArg, []) := by decide +kernel

theorem test_faultInject_answers :
    answer .faultInject 0x44 [1, 0, 0xFF] .reset = some (.ok, [1, 0, 0]) ∧
      (after .faultInject (ready 0x44 [0, 8, 3] laneUp)).lane 3 =
        { laneUp.lane 3 with state := .fenced } := by decide +kernel

theorem test_pins :
    (after (.fireTrigger 3) firing).extendPin 3 = true ∧ (phased .retract 0).retractPin 3 = true ∧
      (atFull .run).beltReferencePin = 200000000 ∧ (inBelt .brake .reset).brakePin = true ∧
      State.reset.atnPin = true ∧ (latched .linkFrame .reset).atnPin = false := by decide +kernel

theorem test_witness_OutputPins :
    State.reset.resetHold = none ∧ (after .powerOn .reset).resetHold.isSome = true := by decide

theorem test_witness_FaultLatchesAndActs :
    (∃ s : State, (s.source .linkFrame).latched = false ∧ s.link.faultReports =
      [] ++ { source := .linkFrame, count := 1, cls := .record, first := true, lane := none } :: []) ∧
    (∀ f ∈ [FaultSource.linkFrame, .poolExhausted, .entryJam, .beltSlip, .estop],
      (State.reset.source f).latched = false ∧ (State.reset.source f).masked = false) ∧
      (State.reset.source .linkFrame).cls = .record ∧ (State.reset.source .beltSlip).cls = .halt ∧
      (State.reset.source .estop).cls = .stop ∧ (laneUp.source .laneJam).cls = .recover ∧
      (laneUp.source .laneJam).latched = false ∧ FaultSource.laneJam.laneScoped = true ∧
      ((inSource .poolExhausted (fun x => { x with cls := .recover }) .reset).source
        .poolExhausted).cls = .recover ∧
      ((inSource .entryJam (fun x => { x with cls := .recover }) .reset).source
        .entryJam).cls = .recover ∧
      ((inSource .linkFrame (fun x => { x with masked := true }) .reset).source
        .linkFrame).masked = true ∧
      ∀ x ∈ State.reset.link.faultReports, x.source ≠ .linkFrame := by
  refine ⟨⟨{ State.reset with link := { State.reset.link with faultReports :=
    [{ source := .linkFrame, count := 1, cls := .record, first := true, lane := none }] } }, ?_⟩, ?_⟩ <;>
    decide

theorem test_witness_FaultRepeatsAreCounted :
    (missed.source .divertMiss).latched = true ∧ FaultSource.divertMiss.laneScoped = true ∧
      (missed.source .divertMiss).laneSet.getLsbD (3 : LaneId).val = true ∧
      (missed.source .divertMiss).laneSet.getLsbD (15 : LaneId).val = false ∧
      (missed.source .divertMiss).masked = false ∧ (missed.source .divertMiss).cls = .recover ∧
      ((latched .strayItem .reset).source .strayItem).cls ≠ .recover ∧
      ((latched .strayItem .reset).source .strayItem).laneSet.getLsbD (0 : LaneId).val = false ∧
      ((latched .linkFrame .reset).source .linkFrame).latched = true ∧
      FaultSource.linkFrame.laneScoped = false := by decide

/-- Induction and lane 3 are jammed, and ENTRY_JAM is of class RECOVER. -/
def jammed : State :=
  inSource .entryJam (fun x => { x with cls := .recover })
    (inMeasurement .jammed (inLane 3 (fun u => { u with jam := true }) laneUp))

theorem test_witness_FaultClearAndInject :
    let stopped := accepted .emergencyStop (latched .estop .reset)
    (∀ src : FaultSource, (8#16).getLsbD src.idx.val = true →
        (latched .beltSlip .reset).conditionHolds src = false) ∧
      (ready 0x41 [8, 0] (latched .beltSlip .reset)).Ready (frameOf 0x41 [8, 0]) ∧
      parseFaultClear [8, 0] = some 8 ∧
      (ready 0x41 [0x40, 0] stopped).Ready (frameOf 0x41 [0x40, 0]) ∧
      parseFaultClear [0x40, 0] = some 0x40 ∧ (0x40#16).getLsbD 6 = true ∧
      stopped.accepted .emergencyStop = true ∧ (stopped.source .estop).masked = false ∧
      (stopped.source .estop).cls = .stop ∧
      (ready 0x41 [0, 0x21] jammed).Ready (frameOf 0x41 [0, 0x21]) ∧
      parseFaultClear [0, 0x21] = some 0x2100 ∧ (0x2100#16).getLsbD 8 = true ∧
      (0x2100#16).getLsbD 13 = true ∧ jammed.induction.measurement = .jammed ∧
      (jammed.lane 3).jam = true ∧ (jammed.source .entryJam).masked = false ∧
      (jammed.source .entryJam).cls = .recover ∧ (jammed.source .laneJam).masked = false ∧
      (jammed.source .laneJam).cls = .recover ∧
      (ready 0x44 [0, 0x40, 15] .reset).Ready (frameOf 0x44 [0, 0x40, 15]) ∧
      parseFaultInject [0, 0x40, 15] =
        some (1#16 <<< FaultSource.diverterOverrun.idx.val, some 15) := by
  unfold State.Ready
  exact ⟨fun src => by cases src <;> decide, by decide⟩

/-- Each jammed lane is one occurrence of the source that latches again. -/
theorem test_faultClear_latches_again :
    let s := inLane 5 (fun u => { u with jam := true }) jammed
    let t := after .faultClear (ready 0x41 [0, 0x21] s)
    (t.source .laneJam).count = 2 ∧ (t.source .laneJam).laneSet = 0x28 ∧
      (t.source .entryJam).latched = true ∧ t.infeed.holdJam = true ∧
      (t.lane 3).state = .fenced := by decide +kernel

theorem test_witness_FaultMaskAndAction :
    let hidden := inSource .linkFrame (fun x => { x with masked := true }) (latched .linkFrame .reset)
    (ready 0x42 [8, 0, 0, 0] (latched .beltSlip .reset)).Ready (frameOf 0x42 [8, 0, 0, 0]) ∧
      parseFaultMask [8, 0, 0, 0] = some (8, 0) ∧
      (ready 0x42 [0, 0, 1, 0] hidden).Ready (frameOf 0x42 [0, 0, 1, 0]) ∧
      (ready 0x42 [0, 0, 1, 0] .reset).Ready (frameOf 0x42 [0, 0, 1, 0]) ∧
      parseFaultMask [0, 0, 1, 0] = some (0, 1#16 <<< FaultSource.linkFrame.idx.val) ∧
      (hidden.source .linkFrame).masked = true ∧ (hidden.source .linkFrame).latched = true ∧
      (hidden.source .linkFrame).cls = .record ∧ (State.reset.source .linkFrame).masked = false ∧
      (ready 0x43 [0, 2] (inBelt .run (latched .linkFrame .reset))).Ready (frameOf 0x43 [0, 2]) ∧
      (ready 0x43 [0, 2] .reset).Ready (frameOf 0x43 [0, 2]) ∧
      parseFaultAction [0, 2] = some (.linkFrame, .halt) ∧
      (State.reset.source .linkFrame).latched = false ∧
      ((inBelt .run (latched .linkFrame .reset)).source .linkFrame).latched = true ∧
      ((inBelt .run (latched .linkFrame .reset)).source .linkFrame).masked = false ∧
      ((inBelt .run (latched .linkFrame .reset)).source .linkFrame).cls = .record ∧
      ¬ (inBelt .run (latched .linkFrame .reset)).belt.state.stopping ∧
      (∀ x ∈ [(FaultSource.beltSlip, [0, 0, 8, (0 : Byte)], ActionClass.halt),
          (.encoderPhase, [0, 0, 4, 0], .stop), (.laneJam, [0, 0, 0, 0x20], .recover)],
        let s := inSource x.1 (fun y => { y with masked := true }) (latched x.1 .reset)
        (ready 0x42 x.2.1 s).Ready (frameOf 0x42 x.2.1) ∧
          parseFaultMask x.2.1 = some (0, 1#16 <<< x.1.idx.val) ∧ (s.source x.1).masked = true ∧
          (s.source x.1).latched = true ∧ (s.source x.1).cls = x.2.2) ∧
      (∀ x ∈ [((1 : Byte), ActionClass.recover), (2, .halt), (3, .stop)],
        parseFaultAction [0, x.1] = some (.linkFrame, x.2) ∧
          (ready 0x43 [0, x.1] (latched .linkFrame .reset)).Ready (frameOf 0x43 [0, x.1]) ∧
          ((latched .linkFrame .reset).source .linkFrame).cls.rank < x.2.rank) := by
  unfold State.Ready; decide

theorem test_unmask_takes_the_action :
    let s := inSource .encoderPhase (fun x => { x with masked := true }) (latched .encoderPhase
      (list [record 1]))
    let t := after .faultMask (ready 0x42 [0, 0, 4, 0] s)
    t.belt.state = .brake ∧ t.tracking.fatePending.map (·.fate) = [some .purged] := by decide +kernel

/-- ESTOP latched, its line asserted, the belt in BRAKE. -/
def braking : State := inBelt .brake (accepted .emergencyStop (latched .estop .reset))

theorem test_witness_EmergencyStopHoldsTheBelt :
    (∃ t, step braking = .next t) ∧ braking.EstopFixed ∧ braking.EstopHeld ∧ braking.BeltHeld ∧
      braking.stoppingFault = true := by
  unfold State.EstopFixed State.EstopHeld State.BeltHeld
  exact ⟨⟨_, rfl⟩, by decide⟩

theorem test_witness_FirstFaultStaysNamed :
    braking.FirstFaultNamed ∧ ∃ t, step braking = .next t := by
  refine ⟨⟨by decide, fun f h => ?_⟩, _, rfl⟩
  have : braking.faults.first = some .estop := by decide
  obtain rfl : FaultSource.estop = f := Option.some.inj (this.symm.trans h)
  decide

/-! ## Events -/

/-- Pairs 0 (CONFIRM of lane 0) and 83 (INFEED_HOLD) enabled, with an entry each. -/
def twoEntries : State :=
  { State.reset with events := { EventUnit.reset with
    enabled := (EventUnit.reset.enabled.set 0 true).set 83 true
    entries := (EventUnit.reset.entries.set 0 (some { count := 1, last := 7 })).set 83
      (some { count := 255, last := 9 }) } }

theorem test_eventEnable_answers :
    answer .eventEnable 0x48 [0, 1, 0, 0b10001, 1] .reset =
      some (.ok, [17, 0, 0, 0, 0, 0, 0, 0, 0, 0, 0, 0]) ∧
      answer .eventEnable 0x48 [1, 0, 0, 8, 0] twoEntries =
        some (.ok, [1, 0, 0, 0, 0, 0, 0, 0, 0, 0, 0, 1]) := by decide +kernel

theorem test_eventRead_answers :
    answer .eventRead 0x49 [1] twoEntries = some (.ok, [1, 1, 0, 0, 1, 7, 0, 0, 0]) ∧
      answer .eventRead 0x49 [20] twoEntries =
        some (.ok, [2, 0, 0, 0, 1, 7, 0, 0, 0, 16, 3, 255, 9, 0, 0, 0]) := by decide +kernel

theorem test_reportSet_answers :
    answer .reportSet 0x4A [9, 1, 0] .reset = some (.ok, [9, 1, 0, 83, 0]) ∧
      answer .reportSet 0x4A [] twoEntries = some (.ok, [0, 0, 0, 83, 2]) := by decide +kernel

theorem test_witness_EventMarksAndEntries :
    let all : EnableArgs := { line := false, laneSet := 0xFFFF, types := 31, on := false }
    (∃ s : State, s.events.enabled[(EventPair.lane 15 .drained).idx] = true ∧
      s.events.entries[(EventPair.lane 15 .drained).idx] = none) ∧
      State.reset.events.enabled[(EventPair.line .infeedHold).idx] = false ∧
      twoEntries.events.enabled[(EventPair.line .infeedHold).idx] = true ∧
      twoEntries.events.entries[(EventPair.line .infeedHold).idx] =
        some { count := 255, last := 9 } ∧
      (ready 0x48 [0, 0xFF, 0xFF, 31, 0] twoEntries).Ready (frameOf 0x48 [0, 0xFF, 0xFF, 31, 0]) ∧
      parseEventEnable [0, 0xFF, 0xFF, 31, 0] = some all ∧
      (ready 0x4A [] .reset).Ready (frameOf 0x4A []) ∧
      (ready 0x4A [9, flagByte true, flagByte false] .reset).Ready
        (frameOf 0x4A [9, flagByte true, flagByte false]) := by
  unfold State.Ready
  exact ⟨⟨{ State.reset with events := { EventUnit.reset with
    enabled := Vector.replicate 84 true } }, by decide +kernel⟩, by decide⟩

theorem test_witness_EventReadTakesInScanOrder :
    (ready 0x49 [20] twoEntries).Ready (frameOf 0x49 [20]) ∧ parseEventRead [20] = some 20 ∧
      parseEventRead [1] = some 1 := by unfold State.Ready; decide

theorem test_witness_EventEntriesStayEnabled :
    twoEntries.EntriesEnabled ∧ ∃ t, step twoEntries = .next t := by
  refine ⟨fun i e => ?_, _, rfl⟩
  have h : ∀ i : Fin 84, (twoEntries.events.entries[i] = none) ∨
      (i = 0 ∧ twoEntries.events.entries[i] = some { count := 1, last := 7 } ∨
        i = 83 ∧ twoEntries.events.entries[i] = some { count := 255, last := 9 }) := by
    decide +kernel
  rcases h i with h | ⟨rfl, h⟩ | ⟨rfl, h⟩ <;> intro he <;> rw [h] at he
  · cases he
  · obtain rfl := Option.some.inj he
    exact ⟨by decide, by decide, by decide⟩
  · obtain rfl := Option.some.inj he
    exact ⟨by decide, by decide, by decide⟩

/-! ## The command link -/

/-- The CHECK bytes of the manual's two worked frames. -/
theorem test_crc_examples :
    crc8 [0x02, 0x02, 0x11] = 0x8B ∧ crc8 [0x03, 0x82, 0x11, 0x09] = 0x9A := by decide +kernel

theorem test_receiveByte_completes_a_frame :
    (after (.receiveByte 0x8B true) { State.reset with link := { State.reset.link with
      receiver := .assembling [0x02, 0x02, 0x11] 0 } }).link.commands = [frameOf 0x02 []] ∧
      (after (.receiveByte 0x8C true) { State.reset with link := { State.reset.link with
        receiver := .assembling [0x02, 0x02, 0x11] 0 } }).faults.first = some .linkFrame := by
  decide +kernel

theorem test_byteGapTimeout_discards :
    (after .byteGapTimeout { State.reset with link := { State.reset.link with
      receiver := .assembling [0x02] 11 } }).faults.first = some .linkFrame ∧
      (after .byteGapTimeout { State.reset with link := { State.reset.link with
        receiver := .assembling [0x02] 10 } }).faults.first = none := by decide +kernel

theorem test_arbiterTake_sends_started :
    (after .arbiterTake .reset).link.sending = some (.item (.started .powerOn false)) ∧
      (after .arbiterTake { twoEntries with link := { Link.reset .pin false with
        itemReports := [] } }).link.sending =
          some (.event { pair := 0, count := 1, last := 7 }) := by decide +kernel

theorem test_frameSent_idles :
    (after .frameSent (after .arbiterTake .reset)).link.sending = none ∧
      (after .frameSent { State.reset with link := { State.reset.link with
        sending := some (.event { pair := 0, count := 1, last := 7 }) } }).events.spacingTimer = 0 := by
  decide +kernel

theorem test_spacingTimerExpiry_makes_an_event_ready :
    { twoEntries with events := { twoEntries.events with
      spacing := 10, spacingTimer := 9 } }.eventReady = false ∧
      { twoEntries with events := { twoEntries.events with
        spacing := 10, spacingTimer := 10 } }.eventReady = true := by decide +kernel

theorem test_identify_answers :
    answer .identify 0x01 [] .reset = some (.ok, [0x91, 0x04, 0x16, 0x03, 1, 0]) ∧
      answer .identify 0x01 [0] .reset = some (.badArg, []) := by decide +kernel

theorem test_status_answers :
    answer .status 0x02 [] .reset =
      some (.ok, [0, 0, 0, 0, 0, 0, 0, 0, 0, 0, 0, 0, 0, 0, 0, 0, 0, 64, 0, 0, 0, 0, 0, 0, 0xFF, 1]) ∧
      (after .status (ready 0x02 [] .reset)).link.resetSeen = false := by decide +kernel

theorem test_lineRead_answers :
    (answer .lineRead 0x09 [] .reset).map (fun x => (x.1, x.2.length)) = some (.ok, 48) ∧
      (answer .lineRead 0x09 [] (accepted .emergencyStop .reset)).map
        (fun x => (x.2.drop 30).take 5) = some [0, 0, 0, 0, 2] := by decide +kernel

theorem test_badKind_answers :
    answer .badKind 0x6F [1, 2] .reset = some (.badKind, []) ∧
      answer .badKind 0x02 [] .reset = none := by decide +kernel

theorem test_witness_ReadsAnswerTheState :
    (ready 0x02 [] .reset).Ready (frameOf 0x02 []) ∧
      (ready 0x09 [] .reset).Ready (frameOf 0x09 []) ∧
      (ready 0x3A [byteOf 15] .reset).Ready (frameOf 0x3A [byteOf 15]) ∧
      (ready 0x40 [] .reset).Ready (frameOf 0x40 []) := by unfold State.Ready; decide

theorem test_witness_BadFramesChangeNothing :
    (ready 0x08 [0] .reset).Ready (frameOf 0x08 [0]) ∧
      (Instr.lineConfig, (0x08 : Byte), [26]) ∈ commandLayouts ∧
      ([0] : List Byte).length ∉ [26] ∧ (ready 0x6F [] .reset).Ready (frameOf 0x6F []) ∧
      (0x6F : Byte).toNat < 0x70 ∧ (∀ row ∈ commandLayouts, row.2.1 ≠ (0x6F : Byte)) ∧
      (ready 0x22 [0, 0] .reset).Ready (frameOf 0x22 [0, 0]) ∧
      (Instr.cancel, (0x22 : Byte), [2]) ∈ commandLayouts ∧ fieldsRefused 0x22 [0, 0] = true := by
  unfold State.Ready; decide

/-- Values at the ends of their ranges are taken, and those one beyond are refused. -/
theorem test_fieldsRefused_at_the_ends :
    (∀ x ∈ [((0x03 : Byte), ([2] : List Byte)), (0x20, [1, 0, 0xFF, 0xFF, 0xFF, 0]),
        (0x20, [1, 0, 0xFF, 0xFF, 0xFF, 0xFF]), (0x21, [1, 0, 15]), (0x23, [1, 0, 16]), (0x2A, [31]),
        (0x2A, [0xFF]), (0x2C, [0x21]), (0x30, [15, 6, 0xFF, 0, 1]), (0x39, [15, 2]),
        (0x42, [0xBF, 0x7F, 0, 0]), (0x43, [14, 3]), (0x48, [0, 0, 0, 31, 1]), (0x48, [1, 0, 0, 15, 0]),
        (0x49, [20]), (0x4A, []), (0x10, []), (0x08, otherLine.bytes), (0x38, 15 :: geometry.bytes),
        (0x28, 31 :: routePayload 7 0 15 true (.group 7) false)],
      fieldsRefused x.1 x.2 = false) ∧
    ∀ x ∈ [((0x03 : Byte), ([3] : List Byte)), (0x20, [0, 0, 0, 0, 0, 0]), (0x20, [1, 0, 0, 0, 0, 1]),
        (0x21, [1, 0, 16]), (0x23, [1, 0, 17]), (0x2A, [32]), (0x2C, [0x22]), (0x30, [0, 7, 0, 0, 0]),
        (0x39, [0, 3]), (0x42, [0x40, 0, 0, 0]), (0x42, [1, 0, 1, 0]), (0x43, [6, 0]),
        (0x43, [15, 0]), (0x48, [1, 0, 0, 16, 1]), (0x49, [21]), (0x4A, [0, 2, 0]),
        (0x08, { otherLine with decision := 50000 }.bytes),
        (0x38, 15 :: { geometry with jamTime := 99 }.bytes)],
      fieldsRefused x.1 x.2 = true := by decide +kernel

theorem test_witness_ReceiverTakesEveryFrame :
    State.reset.resetHold = none ∧ State.reset.link.receiver = .hunting ∧
      State.reset.link.commands.length < 4 ∧
      ({ kind := 0x6F, tag := 0xFF, payload := List.replicate 240 0xA7 } : Frame).kind.toNat < 0x70 ∧
      ({ kind := 0x6F, tag := 0xFF, payload := List.replicate 240 0xA7 } : Frame).payload.length ≤
        240 := by decide +kernel

/-- A receiver with the bytes of a STATUS frame but its CHECK. -/
def assembling (gap : Nat) (commands : List Frame) : State :=
  { State.reset with link := { State.reset.link with
    receiver := .assembling [0x02, 0x02, 0x11] gap, commands := commands } }

theorem test_witness_ReceiverByRule :
    let full := assembling 10 (List.replicate 4 (frameOf 0x02 []))
    (∃ s : State, s.resetHold = none ∧ s.link.receiver = .assembling [] 10) ∧
      (∃ s : State, s.resetHold = none ∧ s.link.receiver = .assembling [0x02, 0x70, 0x11] 10) ∧
      State.reset.resetHold = none ∧ State.reset.link.receiver = .hunting ∧
      (0xA6 : Byte) ≠ 0xA7 ∧ full.resetHold = none ∧
      full.link.receiver = .assembling [0x02, 0x02, 0x11] 10 ∧
      ((1 : Byte).toNat < 2 ∨ 242 < (1 : Byte).toNat) ∧
      ((243 : Byte).toNat < 2 ∨ 242 < (243 : Byte).toNat) ∧ 2 ≤ (0x02 : Byte).toNat ∧
      [0x02, 0x02, 0x11].length = (0x02 : Byte).toNat + 1 ∧ (0x8C : Byte) ≠ crc8 [0x02, 0x02, 0x11] ∧
      (0x8B : Byte) = crc8 [0x02, 0x02, 0x11] ∧ (0x02 : Byte).toNat < 0x70 ∧
      0x70 ≤ (0x70 : Byte).toNat ∧ full.link.commands.length = 4 ∧
      full.link.replies.length + full.tracking.fences.length < 12 ∧
      (assembling 11 []).link.receiver = .assembling [0x02, 0x02, 0x11] 11 := by
  let receiving (r : Receiver) : State :=
    { State.reset with link := { State.reset.link with receiver := r } }
  exact ⟨⟨receiving (.assembling [] 10), by decide⟩,
    ⟨receiving (.assembling [0x02, 0x70, 0x11] 10), by decide⟩, by decide +kernel⟩

theorem test_witness_ArbiterAndFrameSent :
    let quiet : State := { twoEntries with link := { Link.reset .pin false with itemReports := [] } }
    State.reset.resetHold = none ∧ State.reset.link.sending = none ∧
      State.reset.link.replies = [] ∧
      State.reset.link.itemReports = .started .powerOn false :: [] ∧
      quiet.resetHold = none ∧ quiet.link.sending = none ∧ quiet.link.replies = [] ∧
      quiet.link.itemReports = [] ∧ quiet.link.faultReports = [] ∧ quiet.events.hold = false ∧
      quiet.events.spacing ≤ quiet.events.spacingTimer ∧
      quiet.events.entries[(0 : Fin 84)] = some { count := 1, last := 7 } ∧
      (∀ j : Fin 84, ¬ quiet.events.scanDistance j < quiet.events.scanDistance 0) ∧
      quiet.events.scanDistance 83 = 83 ∧
      (after .arbiterTake .reset).link.sending = some (.item (.started .powerOn false)) ∧
      (after .arbiterTake .reset).link.sending.isSome = true := by decide +kernel

theorem test_witness_QueuesStayBounded :
    (∃ t, step fourFences = .next t) ∧ fourFences.QueuesBounded ∧ fourFences.PoolBounded ∧
      fourFences.ReportsApart := by
  unfold State.QueuesBounded State.PoolBounded State.ReportsApart
  exact ⟨⟨_, rfl⟩, by decide⟩

theorem test_witness_PayloadsReadBack :
    (∃ c : BeltSettings, 1000 ≤ c.accelRate ∧ c.accelRate ≤ 2000000 ∧ 1000 ≤ c.decelRate ∧
        c.decelRate ≤ 2000000 ∧ c.deviationLimit ≤ 65535 ∧
        (c.stallTime = 0 ∨ (10 ≤ c.stallTime ∧ c.stallTime ≤ 2000))) ∧
      otherLine.InRange ∧ geometry.InRange ∧
      ({ LineConfig.reset with runout := 1000000, decision := 999999, minLength := 1
                               maxLength := 65535, minGap := 65535, releaseGap := 65535
                               reserve := 16, filterTime := 15
                               reverseLimit := 65535 } : LineConfig).InRange := by
  unfold LineConfig.InRange Geometry.InRange
  exact ⟨⟨⟨1000, 2000000, 65535, 2000⟩, by decide⟩, by decide⟩

theorem test_witness_InvariantsHoldAtReset :
    ∃ s : State, s.pending = [] ∧ s.freeCount = 0 ∧ s.resetHold = some .powerOn ∧
      s.position.encoder = { a := false, b := false } ∧
      ∀ i : Fin 34, s.position.sensors[i].raw = false :=
  ⟨after .powerOn .reset, by decide⟩

end Sys2Proof.Tests
end

section
/-! SUPPORT. Numbers written on the wire and read back from a payload, and the payloads of the belt
commands (02): which of them their parses accept. -/

namespace Sys2Proof.Machine

/-! ## Numbers on the wire (00 Conventions) -/

@[simp] theorem length_leBytes (n v : Nat) : (leBytes n v).length = n := by
  induction n generalizing v with
  | zero => rfl
  | succ n ih => simp [leBytes, ih]

/-- A number written in `n` bytes reads back as its low `8 * n` bits. -/
theorem leNat_leBytes (n v : Nat) : leNat (leBytes n v) = v % 256 ^ n := by
  induction n generalizing v with
  | zero => simp [leBytes, leNat, Nat.mod_one]
  | succ n ih => simp [leBytes, leNat, byteOf, ih, pow_succ', Nat.mod_mul]

/-- The field at the front of a payload is the number written there. -/
theorem fieldAt_leBytes_append {n v : Nat} (hv : v < 256 ^ n) (p : List Byte) :
    fieldAt (leBytes n v ++ p) 0 n = v := by
  rw [fieldAt, List.drop_zero, List.take_append_of_le_length (by simp),
    List.take_of_length_le (by simp), leNat_leBytes, Nat.mod_eq_of_lt hv]

/-- A payload that is one number. -/
theorem fieldAt_leBytes {n v : Nat} (hv : v < 256 ^ n) : fieldAt (leBytes n v) 0 n = v := by
  simpa using fieldAt_leBytes_append hv []

/-- A field behind a number is read from what follows the number. -/
theorem fieldAt_skip_leBytes (m v off n : Nat) (p : List Byte) :
    fieldAt (leBytes m v ++ p) (m + off) n = fieldAt p off n := by
  rw [fieldAt, fieldAt, List.drop_append, List.drop_eq_nil_of_le (by simp), length_leBytes,
    Nat.add_sub_cancel_left, List.nil_append]

/-- A payload of one byte is that byte's number. -/
theorem fieldAt_singleton (b : Byte) : fieldAt [b] 0 1 = b.toNat := by
  simp [fieldAt, leNat]

/-! ## BELT_CONFIG's payload (R18) -/

/-- The four settings lie in the ranges of R18. -/
def BeltSettings.InRange (c : BeltSettings) : Prop :=
  (1000 ≤ c.accelRate ∧ c.accelRate ≤ 2000000) ∧ (1000 ≤ c.decelRate ∧ c.decelRate ≤ 2000000) ∧
    (c.stallTime = 0 ∨ 10 ≤ c.stallTime ∧ c.stallTime ≤ 2000)

/-- The four settings fit the fields that carry them. -/
def BeltSettings.Fits (c : BeltSettings) : Prop :=
  c.accelRate < 4294967296 ∧ c.decelRate < 4294967296 ∧ c.deviationLimit ≤ 65535 ∧
    c.stallTime ≤ 65535

/-- The four settings as BELT_CONFIG carries them. -/
def BeltSettings.bytes (c : BeltSettings) : List Byte :=
  leBytes 4 c.accelRate ++ leBytes 4 c.decelRate ++ leBytes 2 c.deviationLimit ++
    leBytes 2 c.stallTime

theorem BeltSettings.length_bytes (c : BeltSettings) : c.bytes.length = 12 := by
  simp [BeltSettings.bytes]

/-- The belt drive shows the settings it was given. -/
theorem settingsBytes_configure (b : BeltDrive) (c : BeltSettings) :
    (b.configure c).settingsBytes = c.bytes := rfl

/-- Each field of the payload reads as the setting written there. -/
theorem BeltSettings.fieldAt_bytes {c : BeltSettings} (hc : c.Fits) :
    fieldAt c.bytes 0 4 = c.accelRate ∧ fieldAt c.bytes 4 4 = c.decelRate ∧
      fieldAt c.bytes 8 2 = c.deviationLimit ∧ fieldAt c.bytes 10 2 = c.stallTime := by
  obtain ⟨haccel, hdecel, hlimit, hstall⟩ := hc
  simp only [BeltSettings.bytes, List.append_assoc]
  refine ⟨fieldAt_leBytes_append (by omega) _, ?_, ?_, ?_⟩
  · rw [fieldAt_skip_leBytes 4 _ 0, fieldAt_leBytes_append (by omega)]
  · rw [fieldAt_skip_leBytes 4 _ 4, fieldAt_skip_leBytes 4 _ 0, fieldAt_leBytes_append (by omega)]
  · rw [fieldAt_skip_leBytes 4 _ 6, fieldAt_skip_leBytes 4 _ 2, fieldAt_skip_leBytes 2 _ 0,
      fieldAt_leBytes (by omega)]

theorem parseBeltConfig_of_inRange {c : BeltSettings} (hc : c.Fits) (hr : c.InRange) :
    parseBeltConfig c.bytes = some c := by
  obtain ⟨haccel, hdecel, hlimit, hstall⟩ := BeltSettings.fieldAt_bytes hc
  obtain ⟨raccel, rdecel, rstall⟩ := hr
  simp [parseBeltConfig, lengthIs, rangeOf, c.length_bytes, haccel, hdecel, hlimit, hstall,
    raccel, rdecel, rstall]

/-- Any one field out of range makes the whole payload illegal. -/
theorem parseBeltConfig_of_not_inRange {c : BeltSettings} (hc : c.Fits) (hr : ¬ c.InRange) :
    parseBeltConfig c.bytes = none := by
  obtain ⟨haccel, hdecel, -, hstall⟩ := BeltSettings.fieldAt_bytes hc
  by_cases raccel : 1000 ≤ c.accelRate ∧ c.accelRate ≤ 2000000
  · by_cases rdecel : 1000 ≤ c.decelRate ∧ c.decelRate ≤ 2000000
    · have rstall : ¬ (c.stallTime = 0 ∨ 10 ≤ c.stallTime ∧ c.stallTime ≤ 2000) :=
        fun h => hr ⟨raccel, rdecel, h⟩
      simp [parseBeltConfig, lengthIs, rangeOf, c.length_bytes, haccel, hdecel, hstall, raccel,
        rdecel, rstall]
    · simp [parseBeltConfig, lengthIs, rangeOf, c.length_bytes, haccel, hdecel, raccel, rdecel]
  · simp [parseBeltConfig, lengthIs, rangeOf, c.length_bytes, haccel, raccel]

/-- A payload that is not empty is a write. -/
theorem parseOrEmpty_of_ne_nil {α : Type} (parse : List Byte → Option α) {p : List Byte}
    (hp : p ≠ []) : parseOrEmpty parse p = (parse p).map some := if_neg hp

theorem BeltSettings.parseOrEmpty_bytes (c : BeltSettings) :
    parseOrEmpty parseBeltConfig c.bytes = (parseBeltConfig c.bytes).map some :=
  parseOrEmpty_of_ne_nil _ (List.ne_nil_of_length_pos (by simp [c.length_bytes]))

/-! ## BELT_SPEED's payload (R22) -/

/-- A speed of four bytes is accepted from 1 to 200,000. -/
theorem parseSpeed_leBytes {speed : Nat} (h : speed < 4294967296) :
    parseSpeed (leBytes 4 speed) = if 1 ≤ speed ∧ speed ≤ 200000 then some speed else none := by
  simp [parseSpeed, lengthIs, rangeOf, fieldAt_leBytes (n := 4) h]

/-! ## BELT_STOP's payload (R23) -/

theorem parseStopMode_ramped : parseStopMode [0] = some .ramped := by decide

theorem parseStopMode_immediate : parseStopMode [1] = some .immediate := by decide

/-- No payload but the two modes' bytes is legal: one of another length, or another byte, is refused. -/
theorem parseStopMode_other {p : List Byte} (h0 : p ≠ [0]) (h1 : p ≠ [1]) :
    parseStopMode p = none := by
  by_cases hlen : p.length = 1
  · obtain ⟨b, rfl⟩ := List.length_eq_one_iff.1 hlen
    have hb0 : b.toNat ≠ 0 := fun e => h0 (by rw [BitVec.eq_of_toNat_eq (y := 0) e])
    have hb1 : b.toNat ≠ 1 := fun e => h1 (by rw [BitVec.eq_of_toNat_eq (y := 1) e])
    -- simp takes the third arm of the match by `hb0` and `hb1`
    simp [parseStopMode, lengthIs, fieldAt_singleton]
  · simp [parseStopMode, lengthIs, hlen]

end Sys2Proof.Machine
end

section
/-! SUPPORT. The belt commands' answers (R18, R22, R23), one equation for each case, and the statements
about them. -/

namespace Sys2Proof.Machine

/-! ## BELT_CONFIG (R18) -/

theorem exec_beltConfig (s : State) : exec .beltConfig s =
    .next (onCommand 0x10 (parseOrEmpty parseBeltConfig) answerBeltConfig s) := rfl

theorem answerBeltConfig_read (f : Frame) (s : State) :
    answerBeltConfig none f s = s.answered f .ok s.belt.settingsBytes := rfl

theorem answerBeltConfig_stopped (c : BeltSettings) (f : Frame) {s : State}
    (h : s.belt.state = .stopped) :
    answerBeltConfig (some c) f s = (s.setBelt (s.belt.configure c)).answered f .ok c.bytes := by
  simp [answerBeltConfig, h, replyOk_eq_answered, settingsBytes_configure]

theorem answerBeltConfig_not_stopped (c : BeltSettings) (f : Frame) {s : State}
    (h : s.belt.state ≠ .stopped) :
    answerBeltConfig (some c) f s = s.answered f .badState [] := by
  simp [answerBeltConfig, h, replyTo_eq_answered]

/-- A ready BELT_CONFIG with an empty payload is a read. -/
theorem exec_beltConfig_read {s : State} {f : Frame} (h : s.Ready f) (hk : f.kind = 0x10)
    (hp : f.payload = []) :
    exec .beltConfig s = .next (s.taken.answered f .ok s.belt.settingsBytes) := by
  have hx : parseOrEmpty parseBeltConfig f.payload = some none := by simp [parseOrEmpty, hp]
  rw [exec_beltConfig, onCommand_ready h hk hx, answerBeltConfig_read]
  simp

theorem exec_beltConfig_badArg {s : State} {f : Frame} {c : BeltSettings} (h : s.Ready f)
    (hk : f.kind = 0x10) (hp : f.payload = c.bytes) (hc : c.Fits) (hr : ¬ c.InRange) :
    exec .beltConfig s = .next (s.taken.answered f .badArg []) := by
  have hx : parseOrEmpty parseBeltConfig f.payload = none := by
    rw [hp, c.parseOrEmpty_bytes, parseBeltConfig_of_not_inRange hc hr]; rfl
  rw [exec_beltConfig, onCommand_badArg h hk hx]

/-- A ready BELT_CONFIG whose settings are in range comes to be answered by the belt state. -/
theorem exec_beltConfig_write {s : State} {f : Frame} {c : BeltSettings} (h : s.Ready f)
    (hk : f.kind = 0x10) (hp : f.payload = c.bytes) (hc : c.Fits) (hr : c.InRange) :
    exec .beltConfig s = .next (answerBeltConfig (some c) f s.taken) := by
  have hx : parseOrEmpty parseBeltConfig f.payload = some (some c) := by
    rw [hp, c.parseOrEmpty_bytes, parseBeltConfig_of_inRange hc hr]; rfl
  rw [exec_beltConfig, onCommand_ready h hk hx]

/-! ## BELT_SPEED (R22) -/

theorem exec_beltSpeed (s : State) :
    exec .beltSpeed s = .next (onCommand 0x12 parseSpeed answerBeltSpeed s) := rfl

theorem exec_beltSpeed_badArg {s : State} {f : Frame} {speed : Nat} (h : s.Ready f)
    (hk : f.kind = 0x12) (hlt : speed < 4294967296) (hp : f.payload = leBytes 4 speed)
    (hr : ¬ (1 ≤ speed ∧ speed ≤ 200000)) :
    exec .beltSpeed s = .next (s.taken.answered f .badArg []) := by
  have hx : parseSpeed f.payload = none := by rw [hp, parseSpeed_leBytes hlt, if_neg hr]
  rw [exec_beltSpeed, onCommand_badArg h hk hx]

/-- A ready BELT_SPEED whose speed is in range comes to be answered by the belt state. -/
theorem exec_beltSpeed_inRange {s : State} {f : Frame} {speed : Nat} (h : s.Ready f)
    (hk : f.kind = 0x12) (hlt : speed < 4294967296) (hp : f.payload = leBytes 4 speed)
    (hr : 1 ≤ speed ∧ speed ≤ 200000) :
    exec .beltSpeed s = .next (answerBeltSpeed speed f s.taken) := by
  have hx : parseSpeed f.payload = some speed := by rw [hp, parseSpeed_leBytes hlt, if_pos hr]
  rw [exec_beltSpeed, onCommand_ready h hk hx]

theorem answerBeltSpeed_stopping (speed : Nat) (f : Frame) {s : State}
    (h : s.belt.state = .stopped ∨ s.belt.state = .decel ∨ s.belt.state = .brake) :
    answerBeltSpeed speed f s = s.answered f .badState [] := by
  rcases h with h | h | h <;> simp [answerBeltSpeed, h, replyTo_eq_answered]

theorem answerBeltSpeed_moving (speed : Nat) (f : Frame) {s : State}
    (h : s.belt.state = .accel ∨ s.belt.state = .run ∨ s.belt.state = .slow) :
    answerBeltSpeed speed f s = (changeSpeed speed s).answered f .ok [] := by
  rcases h with h | h | h <;> simp [answerBeltSpeed, h, replyOk_eq_answered]

/-- Below the new target the belt accelerates. -/
theorem changeSpeed_below {speed : Nat} {s : State} (h : s.belt.reference < 1000 * speed) :
    changeSpeed speed s =
      chooseInfeed (s.setBelt { s.belt with target := speed, state := .accel }) := by
  simp [changeSpeed, BeltDrive.targetThousandths, h]

/-- Above the new target the belt slows. -/
theorem changeSpeed_above {speed : Nat} {s : State} (h : 1000 * speed < s.belt.reference) :
    changeSpeed speed s =
      chooseInfeed (s.setBelt { s.belt with target := speed, state := .slow }) := by
  simp [changeSpeed, BeltDrive.targetThousandths, h, h.not_gt]

/-- At the new target a running belt runs on. -/
theorem changeSpeed_at_run {speed : Nat} {s : State} (h : s.belt.reference = 1000 * speed)
    (hrun : s.belt.state = .run) :
    changeSpeed speed s = s.setBelt { s.belt with target := speed } := by
  simp [changeSpeed, BeltDrive.targetThousandths, h, hrun]

/-- At the new target a belt in ACCEL or SLOW enters RUN. -/
theorem changeSpeed_at_other {speed : Nat} {s : State} (h : s.belt.reference = 1000 * speed)
    (hrun : s.belt.state ≠ .run) :
    changeSpeed speed s = enterRun (s.setBelt { s.belt with target := speed }) := by
  simp [changeSpeed, BeltDrive.targetThousandths, h, hrun]

/-- Settles O17: BELT_CONFIG and BELT_SPEED by payload, then by belt state, then by the reference. -/
theorem beltConfigAndSpeed : Obligations.BeltConfigAndSpeed := by
  unfold Obligations.BeltConfigAndSpeed
  refine ⟨fun s f h hk => ⟨exec_beltConfig_read h hk, ?_⟩, ?_⟩
  · intro accel decel limit stall haccel hdecel hlimit hstall hp inRange
    have hpc : f.payload = BeltSettings.bytes ⟨accel, decel, limit, stall⟩ := hp
    have hc : BeltSettings.Fits ⟨accel, decel, limit, stall⟩ := ⟨haccel, hdecel, hlimit, hstall⟩
    refine ⟨exec_beltConfig_badArg h hk hpc hc, fun hr hs => ?_, fun hr hs => ?_⟩
    · rw [exec_beltConfig_write h hk hpc hc hr, answerBeltConfig_not_stopped _ f (s := s.taken) hs]
    · rw [exec_beltConfig_write h hk hpc hc hr, answerBeltConfig_stopped _ f (s := s.taken) hs, hpc]
      rfl
  · intro s f speed h hk hlt hp inRange
    refine ⟨exec_beltSpeed_badArg h hk hlt hp, fun hr hs => ?_, fun hr hs => ?_⟩
    · rw [exec_beltSpeed_inRange h hk hlt hp hr, answerBeltSpeed_stopping speed f (s := s.taken) hs]
    · rw [exec_beltSpeed_inRange h hk hlt hp hr, answerBeltSpeed_moving speed f (s := s.taken) hs]
      refine ⟨fun hb => ?_, fun ha => ?_, fun he => ⟨fun hrun => ?_, fun hrun => ?_⟩⟩
      · rw [changeSpeed_below (s := s.taken) hb]; rfl
      · rw [changeSpeed_above (s := s.taken) ha]; rfl
      · rw [changeSpeed_at_run (s := s.taken) he hrun]; rfl
      · rw [changeSpeed_at_other (s := s.taken) he hrun]; rfl

/-! ## BELT_STOP (R23) -/

theorem exec_beltStop (s : State) :
    exec .beltStop s = .next (onCommand 0x13 parseStopMode answerBeltStop s) := rfl

/-- A ready BELT_STOP RAMPED is the belt's halt, answered with the belt state after it. -/
theorem exec_beltStop_ramped {s : State} {f : Frame} (h : s.Ready f) (hk : f.kind = 0x13)
    (hp : f.payload = [0]) : exec .beltStop s =
      .next ((beltHalt s.taken).answered f .ok [(beltHalt s.taken).belt.state.code]) := by
  have hx : parseStopMode f.payload = some .ramped := by rw [hp, parseStopMode_ramped]
  rw [exec_beltStop, onCommand_ready h hk hx]
  rfl

/-- A ready BELT_STOP IMMEDIATE brakes the belt, and its answer names BRAKE. -/
theorem exec_beltStop_immediate {s : State} {f : Frame} (h : s.Ready f) (hk : f.kind = 0x13)
    (hp : f.payload = [1]) :
    exec .beltStop s = .next ((beltBrake s.taken).answered f .ok [5]) := by
  have hx : parseStopMode f.payload = some .immediate := by rw [hp, parseStopMode_immediate]
  rw [exec_beltStop, onCommand_ready h hk hx, answerBeltStop, stopBelt, beltBrake_state]
  rfl

theorem exec_beltStop_badArg {s : State} {f : Frame} (h : s.Ready f) (hk : f.kind = 0x13)
    (h0 : f.payload ≠ [0]) (h1 : f.payload ≠ [1]) :
    exec .beltStop s = .next (s.taken.answered f .badArg []) := by
  rw [exec_beltStop, onCommand_badArg h hk (parseStopMode_other h0 h1)]

/-- A moving belt enters DECEL. -/
theorem beltHalt_moving {s : State}
    (h : s.belt.state = .accel ∨ s.belt.state = .run ∨ s.belt.state = .slow) :
    beltHalt s = enterDecel s := by
  rcases h with h | h | h <;> simp [beltHalt, h]

/-- A belt that is stopping or stopped already is left as it is. -/
theorem beltHalt_of_stopping {s : State} (h : s.belt.state.stopping) : beltHalt s = s := by
  rcases h with h | h | h <;> simp [beltHalt, h]

theorem beltBrake_of_ne {s : State} (h : s.belt.state ≠ .brake) : beltBrake s = enterBrake s := by
  cases hb : s.belt.state <;> simp_all [beltBrake]

theorem beltBrake_of_brake {s : State} (h : s.belt.state = .brake) : beltBrake s = s := by
  simp [beltBrake, h]

theorem enterDecel_state (s : State) : (enterDecel s).belt.state = .decel := by
  simp [enterDecel]

theorem brakePin_of_brake {s : State} (h : s.belt.state = .brake) : s.brakePin = true := by
  simp [State.brakePin, h]

/-- Settles O19: BELT_STOP by its mode, then by the belt state. -/
theorem beltStopByModeAndState : Obligations.BeltStopByModeAndState := by
  unfold Obligations.BeltStopByModeAndState
  intro s f h hk
  refine ⟨fun hp => ⟨fun hs => ?_, fun hs => ?_⟩, fun hp => ⟨fun hs => ?_, fun hs => ?_⟩,
    exec_beltStop_badArg h hk, fun t _ => brakePin_of_brake⟩
  · rw [exec_beltStop_ramped h hk hp, beltHalt_moving (s := s.taken) hs, enterDecel_state]; rfl
  · rw [exec_beltStop_ramped h hk hp, beltHalt_of_stopping (s := s.taken) hs]; rfl
  · rw [exec_beltStop_immediate h hk hp, beltBrake_of_ne (s := s.taken) hs]; rfl
  · rw [exec_beltStop_immediate h hk hp, beltBrake_of_brake (s := s.taken) hs]

end Sys2Proof.Machine
end

section
/-! SUPPORT. Sets written as numbers, and payloads of one byte that name an index: which of them the reads'
parses accept (R87, R98, R190). -/

namespace Sys2Proof.Machine

/-! ## A set as a number (R190) -/

/-- Adding the bits of a set one by one, each of weight `w` times its power of 2. -/
theorem foldl_add_bits {n : Nat} (p : Fin n → Bool) (w a : Nat) :
    (List.finRange n).foldl (fun acc i => if p i then acc + w * 2 ^ i.val else acc) a =
      a + w * Nat.ofBits p := by
  induction n generalizing w a with
  | zero => simp
  | succ n ih =>
    have hw : ∀ i : Fin n, w * 2 ^ (i.val + 1) = 2 * w * 2 ^ i.val := fun i => by ring
    simp only [List.finRange_succ, List.foldl_cons, List.foldl_map, Fin.val_succ, hw,
      ih (fun i => p i.succ)]
    rw [Nat.ofBits_succ]
    cases p 0 <;> simp [Function.comp_def] <;> ring

/-- The number of a set is the number that the set's indicator spells in binary. -/
theorem setNumber_eq_toNat_ofFnLE {n : Nat} (p : Fin n → Bool) :
    setNumber p = (BitVec.ofFnLE p).toNat := by
  simpa [setNumber] using foldl_add_bits p 1 0

/-! ## An index in one byte (R189) -/

theorem toNat_byteOf_of_lt {v : Nat} (h : v < 256) : (byteOf v).toNat = v := by
  simp [byteOf, Nat.mod_eq_of_lt h]

@[simp] theorem byteOf_toNat (b : Byte) : byteOf b.toNat = b := by simp [byteOf]

@[simp] theorem finOf_val {n : Nat} (i : Fin n) : finOf n i.val = some i := by simp [finOf]

/-- A byte that is no index's is refused as an index. -/
theorem finOf_toNat_eq_none {n : Nat} {b : Byte} (h : ∀ i : Fin n, b ≠ byteOf i.val) :
    finOf n b.toNat = none := by
  have hge : ¬ b.toNat < n := fun hlt => h ⟨b.toNat, hlt⟩ (byteOf_toNat b).symm
  simp [finOf, hge]

/-- A payload of one byte with an index in it reads as that index. -/
theorem fieldAt_index {n : Nat} (hn : n ≤ 256) (i : Fin n) : fieldAt [byteOf i.val] 0 1 = i.val := by
  rw [fieldAt_singleton, toNat_byteOf_of_lt (by omega)]

/-! ## IDENTIFY's payload (R183) -/

theorem parseNothing_nil : parseNothing [] = some () := rfl

theorem parseNothing_of_ne_nil {p : List Byte} (hp : p ≠ []) : parseNothing p = none := by
  simp [parseNothing, lengthIs, hp]

/-! ## ROUTE_READ's payload (R87, R88) -/

theorem parseRouteRead_index (i : Fin 32) : parseRouteRead [byteOf i.val] = some (some i) := by
  have hi : i.val ≠ 0xFF := by omega
  simp [parseRouteRead, lengthIs, optFinOf, fieldAt_index (n := 32) (by decide), hi]

theorem parseRouteRead_absent : parseRouteRead [0xFF] = some none := by decide

/-- No payload but an index's byte and the absent byte is legal. -/
theorem parseRouteRead_other {p : List Byte} (hi : ∀ i : Fin 32, p ≠ [byteOf i.val])
    (ha : p ≠ [0xFF]) : parseRouteRead p = none := by
  by_cases hlen : p.length = 1
  · obtain ⟨b, rfl⟩ := List.length_eq_one_iff.1 hlen
    have hb : b.toNat ≠ 0xFF := fun e => ha (by rw [BitVec.eq_of_toNat_eq (y := 0xFF) e])
    have hf : finOf 32 b.toNat = none := finOf_toNat_eq_none fun i e => hi i (by rw [e])
    simp [parseRouteRead, lengthIs, optFinOf, fieldAt_singleton, hb, hf]
  · simp [parseRouteRead, lengthIs, hlen]

/-! ## GROUP_READ's payload (R98) -/

theorem parseGroup_index (g : Fin 8) : parseGroup [byteOf g.val] = some g := by
  simp [parseGroup, lengthIs, fieldAt_index (n := 8) (by decide)]

/-- No payload but a group's byte is legal. -/
theorem parseGroup_other {p : List Byte} (hg : ∀ g : Fin 8, p ≠ [byteOf g.val]) :
    parseGroup p = none := by
  by_cases hlen : p.length = 1
  · obtain ⟨b, rfl⟩ := List.length_eq_one_iff.1 hlen
    have hf : finOf 8 b.toNat = none := finOf_toNat_eq_none fun g e => hg g (by rw [e])
    simp [parseGroup, lengthIs, fieldAt_singleton, hf]
  · simp [parseGroup, lengthIs, hlen]

end Sys2Proof.Machine
end

section
/-! SUPPORT. The answers of IDENTIFY, ROUTE_READ and GROUP_READ (R87, R88, R98, R183), and the statement
about them. -/

namespace Sys2Proof.Machine

/-! ## IDENTIFY (R183) -/

theorem exec_identify (s : State) : exec .identify s =
    .next (onCommand 0x01 parseNothing (fun _ f s => replyOk f s.identifyFields s) s) := rfl

theorem identifyFields_eq (s : State) : s.identifyFields =
    [0x91, 0x04, 0x16, 0x03, 1, if s.link.fast then 1 else 0] := rfl

theorem exec_identify_empty {s : State} {f : Frame} (h : s.Ready f) (hk : f.kind = 0x01)
    (hp : f.payload = []) : exec .identify s = .next (s.taken.answered f .ok
      [0x91, 0x04, 0x16, 0x03, 1, if s.link.fast then 1 else 0]) := by
  have hx : parseNothing f.payload = some () := by rw [hp, parseNothing_nil]
  rw [exec_identify, onCommand_ready h hk hx, replyOk_eq_answered, identifyFields_eq]
  rfl

theorem exec_identify_badArg {s : State} {f : Frame} (h : s.Ready f) (hk : f.kind = 0x01)
    (hp : f.payload ≠ []) : exec .identify s = .next (s.taken.answered f .badArg []) := by
  rw [exec_identify, onCommand_badArg h hk (parseNothing_of_ne_nil hp)]

/-! ## ROUTE_READ (R87, R88) -/

/-- What a ROUTE_READ shows: one entry's fields, or the summary. -/
def RouteTable.readFields (t : RouteTable) : Option (Fin 32) → List Byte
  | some i => t.entries[i].bytes
  | none => t.summary

theorem exec_routeRead (s : State) : exec .routeRead s =
    .next (onCommand 0x2A parseRouteRead (fun i f s => replyOk f (s.routes.readFields i) s) s) := rfl

/-- A ready ROUTE_READ with a legal payload is answered from the table as it stands. -/
theorem exec_routeRead_ok {s : State} {f : Frame} {i : Option (Fin 32)} (h : s.Ready f)
    (hk : f.kind = 0x2A) (hx : parseRouteRead f.payload = some i) :
    exec .routeRead s = .next (s.taken.answered f .ok (s.routes.readFields i)) := by
  rw [exec_routeRead, onCommand_ready h hk hx, replyOk_eq_answered]
  simp

theorem exec_routeRead_badArg {s : State} {f : Frame} (h : s.Ready f) (hk : f.kind = 0x2A)
    (hi : ∀ i : Fin 32, f.payload ≠ [byteOf i.val]) (ha : f.payload ≠ [0xFF]) :
    exec .routeRead s = .next (s.taken.answered f .badArg []) := by
  rw [exec_routeRead, onCommand_badArg h hk (parseRouteRead_other hi ha)]

theorem RouteTable.countOf_eq_countP (t : RouteTable) (p : RouteEntry → Bool) :
    t.countOf p = (List.finRange 32).countP fun i : Fin 32 => p t.entries[i] :=
  List.countP_eq_length_filter.symm

/-- The entries that satisfy `p`, bit n for index n. -/
def RouteTable.bitsOf (t : RouteTable) (p : RouteEntry → Bool) : BitVec 32 :=
  BitVec.ofFnLE fun i : Fin 32 => p t.entries[i]

theorem RouteTable.getLsbD_bitsOf (t : RouteTable) (p : RouteEntry → Bool) (i : Fin 32) :
    (t.bitsOf p).getLsbD i.val = p t.entries[i] := by
  simp [RouteTable.bitsOf]

theorem RouteTable.entrySet_eq_toNat_bitsOf (t : RouteTable) (p : RouteEntry → Bool) :
    t.entrySet p = (t.bitsOf p).toNat := setNumber_eq_toNat_ofFnLE _

/-- The summary's counts and sets, each as the entries themselves give it. -/
theorem RouteTable.summary_eq (t : RouteTable) : t.summary =
    [byteOf t.plan.val, byteOf t.cursor.val,
      byteOf ((List.finRange 32).countP fun i : Fin 32 => t.entries[i].valid),
      byteOf ((List.finRange 32).countP fun i : Fin 32 =>
        t.entries[i].valid && t.entries[i].locked)] ++
      leBytes 4 (t.bitsOf (·.valid)).toNat ++ leBytes 4 (t.bitsOf (·.locked)).toNat := by
  simp only [RouteTable.summary, RouteTable.countOf_eq_countP, RouteTable.entrySet_eq_toNat_bitsOf]

/-! ## GROUP_READ (R98) -/

theorem exec_groupRead (s : State) : exec .groupRead s =
    .next (onCommand 0x31 parseGroup (fun g f s => replyOk f (s.groupFields g) s) s) := rfl

/-- A ready GROUP_READ of a group is answered with the group as it stands. -/
theorem exec_groupRead_ok {s : State} {f : Frame} {g : Fin 8} (h : s.Ready f) (hk : f.kind = 0x31)
    (hp : f.payload = [byteOf g.val]) :
    exec .groupRead s = .next (s.taken.answered f .ok (s.groupFields g)) := by
  have hx : parseGroup f.payload = some g := by rw [hp, parseGroup_index]
  rw [exec_groupRead, onCommand_ready h hk hx, replyOk_eq_answered]
  rfl

theorem exec_groupRead_badArg {s : State} {f : Frame} (h : s.Ready f) (hk : f.kind = 0x31)
    (hg : ∀ g : Fin 8, f.payload ≠ [byteOf g.val]) :
    exec .groupRead s = .next (s.taken.answered f .badArg []) := by
  rw [exec_groupRead, onCommand_badArg h hk (parseGroup_other hg)]

/-- A lane is in group 7 always, and in another group where one of its slots names it (R96). -/
theorem LaneUnit.memberOf_iff (u : LaneUnit) (g : Fin 8) : u.memberOf g = true ↔
    g = 7 ∨ ∃ k : Fin 4, u.slots[k].map Fin.val = some g.val := by
  have h7 : g.val = 7 ↔ g = 7 := by omega
  simp [LaneUnit.memberOf, h7, Vector.any_eq_true, Fin.exists_iff]

theorem mem_members_iff (s : State) (g : Fin 8) (l : LaneId) :
    l ∈ s.members g ↔ (s.lane l).memberOf g = true := by
  simp [State.members, allLanes]

/-- Settles O33: each of the three reads by its payload, from the equations above. -/
theorem identifyRouteAndGroupReads : Obligations.IdentifyRouteAndGroupReads := by
  unfold Obligations.IdentifyRouteAndGroupReads
  refine ⟨fun s f h hk => ⟨exec_identify_empty h hk, exec_identify_badArg h hk⟩,
    fun s f h hk => ⟨fun i hp => ?_, fun hp => ?_, exec_routeRead_badArg h hk⟩,
    fun s f h hk => ⟨fun g => exec_groupRead_ok h hk, exec_groupRead_badArg h hk, fun g l => ?_⟩⟩
  · have hx : parseRouteRead f.payload = some (some i) := by rw [hp, parseRouteRead_index]
    exact exec_routeRead_ok h hk hx
  · have hx : parseRouteRead f.payload = some none := by rw [hp, parseRouteRead_absent]
    refine ⟨s.routes.bitsOf (·.valid), s.routes.bitsOf (·.locked),
      s.routes.getLsbD_bitsOf _, s.routes.getLsbD_bitsOf _, ?_⟩
    rw [exec_routeRead_ok h hk hx, RouteTable.readFields, RouteTable.summary_eq]
  · rw [mem_members_iff, LaneUnit.memberOf_iff]

end Sys2Proof.Machine
end

section
/-! SUPPORT. What each write of a lane or of the event unit keeps: a lane unit's fit (R112, R118) and the
event entries' marks (R161). -/

namespace Sys2Proof.Machine

/-! ## A lane unit stays settled -/

/-- A lane unit whose state stays, whose queue loses entries at most, and whose diverter does not come to
EXTEND stays settled. -/
theorem LaneUnit.Settled.shrink {u v : LaneUnit} (h : u.Settled) (hs : v.state = u.state)
    (hq : v.queue.Sublist u.queue) (hp : u.phase ≠ .extend → v.phase ≠ .extend) : v.Settled := by
  obtain ⟨hlen, hfit⟩ := h
  refine ⟨hq.length_le.trans hlen, ?_⟩
  rw [hs]
  cases hu : u.state <;> simp only [hu] at hfit ⊢
  case closing => exact ⟨fun e he => hfit.1 e (hq.subset he), hp hfit.2⟩
  all_goals exact ⟨List.sublist_nil.1 (hfit.1 ▸ hq), hp hfit.2⟩

/-- An open lane's fit is the depth of its queue alone. -/
theorem LaneUnit.settled_of_open {u : LaneUnit} (h : u.state = .enabled ∨ u.state = .draining)
    (hq : u.queue.length ≤ 4) : u.Settled := by
  refine ⟨hq, ?_⟩
  rcases h with h | h <;> simp [h]

/-- A lane that holds a RESERVED entry is open (R118). -/
theorem LaneUnit.Settled.open_of_reserved {u : LaneUnit} (h : u.Settled) {e : Entry}
    (he : e ∈ u.queue) (hd : e.diverting = false) : u.state = .enabled ∨ u.state = .draining := by
  obtain ⟨-, hfit⟩ := h
  cases hu : u.state <;> simp only [hu] at hfit ⊢
  case closing => simp [hfit.1 e he] at hd
  case disabled | fenced => simp [hfit.1] at he
  all_goals simp

theorem LaneUnit.enterSettle_frame (u : LaneUnit) :
    u.enterSettle.state = u.state ∧ u.enterSettle.queue = u.queue ∧
      u.enterSettle.phase ≠ .extend := by
  unfold LaneUnit.enterSettle; split <;> simp

theorem LaneUnit.enterRetract_frame (u : LaneUnit) :
    u.enterRetract.state = u.state ∧ u.enterRetract.queue = u.queue ∧
      u.enterRetract.phase ≠ .extend := by
  unfold LaneUnit.enterRetract
  split
  · exact LaneUnit.enterSettle_frame _
  · simp

theorem LaneUnit.Settled.enterSettle {u : LaneUnit} (h : u.Settled) : u.enterSettle.Settled := by
  obtain ⟨hs, hq, hp⟩ := u.enterSettle_frame
  exact h.shrink hs (hq ▸ .refl _) fun _ => hp

theorem LaneUnit.Settled.enterRetract {u : LaneUnit} (h : u.Settled) : u.enterRetract.Settled := by
  obtain ⟨hs, hq, hp⟩ := u.enterRetract_frame
  exact h.shrink hs (hq ▸ .refl _) fun _ => hp

theorem LaneUnit.Settled.cutShort {u : LaneUnit} (h : u.Settled) : u.cutShort.Settled := by
  unfold LaneUnit.cutShort
  split
  · exact h.enterRetract
  · exact h

/-- The exit test takes a settled lane to a settled one (R116, R118). -/
theorem LaneUnit.Settled.exit {u : LaneUnit} (h : u.Settled) :
    ({ u with state := u.exitState } : LaneUnit).Settled := by
  obtain ⟨hlen, hfit⟩ := h
  refine ⟨hlen, ?_⟩
  cases hu : u.state <;> simp only [hu] at hfit <;> simp only [LaneUnit.exitState, hu]
  case draining => by_cases hx : u.queue = [] ∧ u.phase ≠ .extend <;> simp [hx]
  case closing t =>
    by_cases hx : u.queue = []
    · cases t <;> simp [hx, ClosingTarget.state, hfit.2]
    · simpa [hx] using hfit
  all_goals exact hfit

theorem LaneUnit.Settled.emptied {u : LaneUnit} (h : u.Settled) : u.emptied.Settled :=
  LaneUnit.Settled.exit (LaneUnit.Settled.cutShort
    (h.shrink (v := { u with queue := [] }) rfl (List.nil_sublist _) id))

/-- A lane that closes is settled whatever it was (R117, R118). -/
theorem LaneUnit.closed_settled {u : LaneUnit} (hlen : u.queue.length ≤ 4) (target : ClosingTarget) :
    (u.closed target).Settled := by
  refine LaneUnit.Settled.exit ⟨?_, ?_⟩
  · simpa using (List.length_filter_le _ _).trans hlen
  · simp

theorem LaneUnit.Settled.fenced {u : LaneUnit} (h : u.Settled) : u.fenced.Settled := by
  unfold LaneUnit.fenced
  obtain ⟨hlen, hfit⟩ := id h
  cases hu : u.state <;> simp only [hu] at hfit ⊢
  case enabled | draining => exact LaneUnit.closed_settled hlen _
  case closing => exact ⟨hlen, hfit⟩
  case disabled => exact ⟨hlen, hfit⟩
  case fenced => exact h

theorem LaneUnit.removeEntry_sublist (u : LaneUnit) (item : Nat) :
    (u.removeEntry item).queue.Sublist u.queue := List.filter_sublist

theorem LaneUnit.Settled.removeEntry {u : LaneUnit} (h : u.Settled) (item : Nat) :
    (u.removeEntry item).Settled := h.shrink rfl (u.removeEntry_sublist item) id

theorem LaneUnit.Settled.removeReserved {u : LaneUnit} (h : u.Settled) (item : Nat) :
    (u.removeReserved item).Settled := h.shrink rfl List.filter_sublist id

theorem LaneUnit.oldestReserved_spec {u : LaneUnit} {e : Entry} (h : u.oldestReserved = some e) :
    e ∈ u.queue ∧ e.diverting = false :=
  ⟨List.mem_of_find?_eq_some h, by simpa using List.find?_some h⟩

/-- A lane that fires for a RESERVED entry stays settled: it is open (R118, R123). -/
theorem LaneUnit.Settled.fire {u : LaneUnit} (h : u.Settled) {e : Entry}
    (he : u.oldestReserved = some e) (s : State) : (u.fire e s).Settled := by
  obtain ⟨hm, hd⟩ := LaneUnit.oldestReserved_spec he
  exact LaneUnit.settled_of_open (h.open_of_reserved hm hd)
    (by simpa [LaneUnit.fire, LaneUnit.modifyEntry] using h.1)

/-- What a lane's acceptance of an offer says (R120). -/
theorem LaneUnit.accepts_iff (u : LaneUnit) (fire : Word) : u.accepts fire = true ↔
    u.state = .enabled ∧ u.full = false ∧ u.queue.length < 4 ∧
      ∀ p, u.lastFire = some p → (u.geometry.pitch : Int) ≤ Word.diff fire p := by
  have hlen : decide (u.queue.length < Config.laneQueueSize) = true ↔ u.queue.length < 4 :=
    decide_eq_true_iff
  unfold LaneUnit.accepts
  cases u.lastFire <;> simp [-decide_eq_true_eq, hlen, decide_eq_true_iff, and_assoc]

/-- A lane that takes a reservation it accepts stays settled (R120, R121). -/
theorem LaneUnit.settled_reserve {u : LaneUnit} {fire : Word} (h : u.accepts fire = true)
    (item : Nat) (fire' : Word) (s : State) : (u.reserve item fire' s).Settled := by
  obtain ⟨hs, -, hq, -⟩ := (u.accepts_iff fire).1 h
  exact LaneUnit.settled_of_open (.inl hs)
    (by simp only [LaneUnit.reserve, List.length_append, List.length_singleton]; omega)

theorem LaneUnit.Settled.step {u : LaneUnit} (h : u.Settled) (c : Word) : (u.step c).Settled := by
  obtain ⟨hlen, hfit⟩ := h
  refine ⟨by simpa [LaneUnit.step] using hlen, ?_⟩
  cases hu : u.state <;> simp only [hu] at hfit <;> simp only [LaneUnit.step, hu]
  case closing =>
    refine ⟨fun e he => ?_, hfit.2⟩
    obtain ⟨x, hx, rfl⟩ := List.mem_map.1 he
    exact hfit.1 x hx
  all_goals simp [hfit.1, hfit.2]

theorem LaneUnit.Settled.tick {u : LaneUnit} (h : u.Settled) : u.tick.Settled :=
  h.shrink rfl (.refl _) id

theorem LaneUnit.settled_reset (active : Bool) : (LaneUnit.reset active).Settled := by
  simp [LaneUnit.Settled, LaneUnit.reset]

theorem LaneUnit.startJam_frame (u : LaneUnit) :
    u.startJam.state = u.state ∧ u.startJam.queue = u.queue ∧ u.startJam.phase = u.phase := by
  unfold LaneUnit.startJam; split <;> simp

theorem LaneUnit.Settled.startJam {u : LaneUnit} (h : u.Settled) : u.startJam.Settled := by
  obtain ⟨hs, hq, hp⟩ := u.startJam_frame
  exact h.shrink hs (hq ▸ .refl _) (hp ▸ id)

theorem LaneUnit.configure_frame (u : LaneUnit) (g : Geometry) :
    (u.configure g).state = u.state ∧ (u.configure g).queue = u.queue ∧
      (u.configure g).phase = u.phase := by
  unfold LaneUnit.configure LaneUnit.rejudgeJam
  split <;> simp [LaneUnit.endJam]

theorem LaneUnit.Settled.configure {u : LaneUnit} (h : u.Settled) (g : Geometry) :
    (u.configure g).Settled := by
  obtain ⟨hs, hq, hp⟩ := u.configure_frame g
  exact h.shrink hs (hq ▸ .refl _) (hp ▸ id)

/-! ## The event unit -/

/-- The event unit once an occurrence has been handed to it (R161). -/
def EventUnit.handed (e : EventUnit) (p : EventPair) (pos : Word) : EventUnit :=
  if e.enabled[p.idx] then
    { e with entries := e.entries.set p.idx (some (nextEntry e.entries[p.idx] pos)) }
  else e

theorem handEvent_eq (p : EventPair) (pos : Word) (s : State) :
    handEvent p pos s = s.setEvents (s.events.handed p pos) := by
  unfold handEvent EventUnit.handed
  split <;> rfl

theorem nextEntry_count (old : Option EventEntry) (pos : Word) (h : ∀ e, old = some e → 1 ≤ e.count) :
    1 ≤ (nextEntry old pos).count ∧ (nextEntry old pos).count ≤ 255 := by
  cases old with
  | none => simp [nextEntry]
  | some e => simp [nextEntry]

theorem entriesEnabled_congr {s t : State} (h : t.events.enabled = s.events.enabled)
    (h' : t.events.entries = s.events.entries) (hs : s.EntriesEnabled) : t.EntriesEnabled := by
  unfold State.EntriesEnabled; rw [h, h']; exact hs

/-- An occurrence makes an entry of an enabled pair only, with a count in range (R161). -/
theorem State.EntriesEnabled.handed {s : State} (hs : s.EntriesEnabled) (p : EventPair) (pos : Word) :
    (s.setEvents (s.events.handed p pos)).EntriesEnabled := by
  unfold EventUnit.handed
  split
  case isFalse => exact hs
  case isTrue hen =>
    intro i e he
    by_cases hi : i = p.idx
    · subst hi
      have hcount := nextEntry_count s.events.entries[p.idx] pos fun e he => (hs _ e he).2.1
      simp at he
      subst he
      exact ⟨hen, hcount⟩
    · have hne : p.idx.val ≠ i.val := fun e => hi (Fin.ext e.symm)
      simp [hne] at he
      exact hs i e he

end Sys2Proof.Machine
end

section
/-! SUPPORT. A property that the part's writes keep, block by block, is kept by every shared operation. The
writes a property must keep are the fields of `Kept`; what follows carries it through fires, decisions,
edges and closings, so that an invariant is proved at the writes alone. -/

namespace Sys2Proof.Machine

/-- The link `v` holds no more commands than it may where `s` does not, no more replies than `s`, and of
its FAULT reports some. -/
def LinkShrinks (s : State) (v : Link) : Prop :=
  (s.link.commands.length ≤ 4 → v.commands.length ≤ 4) ∧
    v.replies.length ≤ s.link.replies.length ∧ v.faultReports.Sublist s.link.faultReports

/-- `v` is the infeed of `s` but for where the gap-release trigger stands (R7, R30). -/
def SameInfeed (s : State) (v : Infeed) : Prop :=
  v.enable = s.infeed.enable ∧ v.state = s.infeed.state ∧ v.holdPool = s.infeed.holdPool ∧
    v.holdJam = s.infeed.holdJam ∧ v.gapRelease.isSome = s.infeed.gapRelease.isSome

/-- `P` is kept by each write of a block, under what the part knows where it makes it. -/
structure KeptWrites (P : State → Prop) : Prop where
  freeCount : ∀ {s} v, P s → P (s.setFreeCount v)
  position : ∀ {s} v, (s.setPosition v).accepted .emergencyStop = s.accepted .emergencyStop →
    P s → P (s.setPosition v)
  induction : ∀ {s} v, P s → P (s.setInduction v)
  cursors : ∀ {s} v, P s → P (s.setCursors v)
  routes : ∀ {s} v, (s.RoutesApart → (s.setRoutes v).RoutesApart) → P s → P (s.setRoutes v)
  lanes : ∀ {s} v, (∀ l : LaneId, (s.lane l).Settled → v[l].Settled) → P s → P (s.setLanes v)
  closing : ∀ {s} l target, P s → P (enterClosing l target s)
  events : ∀ {s} v, (s.EntriesEnabled → (s.setEvents v).EntriesEnabled) → P s → P (s.setEvents v)
  counts : ∀ {s} v w, CountsKept s ((s.setTracking v).setLink w) →
    P s → P ((s.setTracking v).setLink w)
  link : ∀ {s} v, LinkShrinks s v → P s → P (s.setLink v)
  infeed : ∀ {s} v, SameInfeed s v → P s → P (s.setInfeed v)
  choose : ∀ {s} v, P s → P (chooseInfeed (s.setInfeed v))
  belt : ∀ {s} v, v.state = s.belt.state → P s → P (s.setBelt v)
  moveBelt : ∀ {s} v e, (s.belt.state.stopping → v.state.stopping) →
    (s.EntriesEnabled → (s.setEvents e).EntriesEnabled) → P s →
    P (chooseInfeed ((s.setBelt v).setEvents e))
  startBelt : ∀ {s} v, s.belt.state = .stopped → s.stoppingFault = false → v.state = .accel →
    P s → P (s.setBelt v)

/-- `P` is kept by the writes and by the occurrences of faults (R145, R146). -/
structure KeptOccur (P : State → Prop) : Prop extends KeptWrites P where
  faultOccur : ∀ {s} f lane, P s → P (faultOccur f lane s)

/-- `P` is kept by the writes, by occurrences, and by the two edges that are more than one write each: the
emergency stop's, whose level is ESTOP's condition (R13, R144), and the entry eye's to clear, at whose end
the infeed chooses (R27, R30). -/
structure Kept (P : State → Prop) : Prop extends KeptOccur P where
  estopEdge : ∀ {s} stamp, P s → P (acceptEdge .emergencyStop stamp s)
  entryClear : ∀ {s} stamp, P s → P (entryClear stamp s)

/-! ## What the writes of tracking and the routes keep -/

/-- A fate writes tracking and the link alone (R68). -/
theorem giveFate_writes (item : Nat) (fate : Fate) (offset : Option Int) (s : State) :
    ∃ v w, giveFate item fate offset s = (s.setTracking v).setLink w := by
  unfold giveFate
  split
  · exact ⟨s.tracking, s.link, rfl⟩
  · exact ⟨_, _, rfl⟩

theorem purgeRecords_counts (s : State) : CountsKept s (purgeRecords s) := by
  refine ⟨by simp [purgeRecords], by simp [purgeRecords, State.placesHeld],
    by simp [purgeRecords], ?_⟩
  simp only [purgeRecords, setLink_tracking, setTracking_tracking, List.length_append,
    List.length_map, List.length_nil]
  omega

/-- A hit counted bears on no overlap (R78, R79). -/
theorem withHit_apart {s : State} (i : Fin 32) (h : s.RoutesApart) :
    (s.setRoutes { s.routes with
      entries := s.routes.entries.set i s.routes.entries[i].hit }).RoutesApart := by
  have hread (j : Fin 32) : (s.routes.entries.set i s.routes.entries[i].hit)[j] =
      if j = i then s.routes.entries[j].hit else s.routes.entries[j] := by
    by_cases hj : j = i
    · subst hj; simp
    · have hne : i.val ≠ j.val := fun e => hj (Fin.ext e.symm)
      simp [hj, hne]
  have hvalid (e : RouteEntry) : e.hit.valid = e.valid := rfl
  have hleft (a b : RouteEntry) : a.hit.overlaps b = a.overlaps b := rfl
  have hright (a b : RouteEntry) : a.overlaps b.hit = a.overlaps b := rfl
  intro j k hjk hj hk
  simp only [setRoutes_routes, hread] at hj hk ⊢
  have := h j k hjk (by split at hj <;> exact hj) (by split at hk <;> exact hk)
  split <;> split <;> simp only [hleft, hright, this]

section
variable {P : State → Prop} (K : KeptWrites P)
include K

namespace KeptWrites

/-! ## The blocks' own operations -/

theorem chooseInfeed {s : State} (h : P s) : P (chooseInfeed s) := K.choose s.infeed h

theorem handEvent {s : State} (p : EventPair) (pos : Word) (h : P s) : P (handEvent p pos s) := by
  rw [handEvent_eq]
  exact K.events _ (fun hs => hs.handed p pos) h

theorem tracking {s : State} (v : Tracking) (hv : CountsKept s (s.setTracking v)) (h : P s) :
    P (s.setTracking v) := K.counts v s.link hv h

theorem modifyRecord {s : State} (item : Nat) (f : Record → Record) (h : P s) :
    P (modifyRecord item f s) := K.tracking _ (modifyRecord_counts item f s) h

theorem setLane {s : State} (l : LaneId) (u : LaneUnit) (hu : (s.lane l).Settled → u.Settled)
    (h : P s) : P (s.setLane l u) := by
  refine K.lanes _ (fun m hm => ?_) h
  show ((s.setLane l u).lane m).Settled
  rw [setLane_lane]
  split
  · subst_vars; exact hu hm
  · exact hm

theorem modifyLane {s : State} (l : LaneId) (f : LaneUnit → LaneUnit)
    (hf : (s.lane l).Settled → (f (s.lane l)).Settled) (h : P s) : P (modifyLane l f s) :=
  K.setLane l _ hf h

theorem testExit {s : State} (l : LaneId) (h : P s) : P (testExit l s) := by
  have hx := K.setLane l { s.lane l with state := (s.lane l).exitState } (·.exit) h
  unfold Machine.testExit
  dsimp only
  split
  · exact K.handEvent _ _ hx
  · exact hx

theorem setSensor {s : State} (i : SensorInput) (x : SensorState)
    (hx : x.accepted = (s.sensor i).accepted ∨ i ≠ .emergencyStop) (h : P s) :
    P (s.setSensor i x) := by
  refine K.position _ ?_ h
  show ((s.setSensor i x).sensor .emergencyStop).accepted = (s.sensor .emergencyStop).accepted
  rw [setSensor_sensor]
  split
  · subst_vars; simpa using hx
  · rfl

/-! ## Fates, closings and purges -/

theorem giveFate {s : State} (item : Nat) (fate : Fate) (offset : Option Int) (h : P s) :
    P (giveFate item fate offset s) := by
  have hc := giveFate_counts item fate offset s
  obtain ⟨v, w, heq⟩ := giveFate_writes item fate offset s
  rw [heq] at hc ⊢
  exact K.counts v w hc h

theorem enterRunout {s : State} (item : Nat) (reason : Reason) (h : P s) :
    P (enterRunout item reason s) := by
  unfold Machine.enterRunout
  split
  · exact h
  · dsimp only
    split
    · exact K.giveFate _ _ _ (K.modifyRecord _ _ h)
    · exact K.modifyRecord _ _ h

theorem fenceLane {s : State} (l : LaneId) (h : P s) : P (fenceLane l s) := by
  unfold Machine.fenceLane
  split
  · exact K.closing _ _ h
  · exact K.closing _ _ h
  · rename_i t hs
    refine K.modifyLane l _ (fun hu => ?_) h
    simpa [LaneUnit.fenced, hs] using hu.fenced
  · rename_i hs
    refine K.modifyLane l _ (fun hu => ?_) h
    simpa [LaneUnit.fenced, hs] using hu.fenced
  · exact h

theorem emptyLane {s : State} (l : LaneId) (h : P s) : P (emptyLane l s) :=
  K.testExit l (K.modifyLane l _
    (fun hu => (hu.shrink (v := { s.lane l with queue := [] }) rfl (List.nil_sublist _) id).cutShort)
    h)

theorem abortFences {s : State} (h : P s) : P (abortFences s) :=
  K.counts _ _ (abortFences_counts s) h

theorem purge {s : State} (h : P s) : P (purge s) := by
  unfold Machine.purge
  refine K.abortFences ?_
  split
  · exact h
  · exact forLanes_invariant P _ (fun l t ht => K.emptyLane l ht) _
      (K.counts _ _ (purgeRecords_counts s) h)

theorem retractRequest {s : State} (l : LaneId) (h : P s) : P (retractRequest l s) := by
  unfold Machine.retractRequest
  split
  · exact K.testExit l (K.modifyLane l _ (·.cutShort) h)
  · exact h

theorem clearTracks {s : State} (h : P s) : P (clearTracks s) :=
  K.induction _ (forLanes_invariant P _ (fun l _ ht => K.emptyLane l ht) _ (K.purge h))

/-! ## Belt stops -/

theorem chooseBelt {s : State} (v : BeltDrive) (hv : s.belt.state.stopping → v.state.stopping)
    (h : P s) : P (Machine.chooseInfeed (s.setBelt v)) := K.moveBelt v s.events hv id h

theorem beltHalt {s : State} (h : P s) : P (beltHalt s) := by
  unfold Machine.beltHalt
  split
  case h_1 | h_2 | h_3 => exact K.chooseBelt _ (fun _ => .inl rfl) h
  all_goals exact h

theorem beltBrake {s : State} (h : P s) : P (beltBrake s) := by
  unfold Machine.beltBrake
  split
  case h_1 => exact h
  all_goals exact K.chooseBelt _ (fun _ => .inr (.inl rfl)) h

/-- Coming to RUN from a moving state (R16, R22). -/
theorem enterRun {s : State} (hs : ¬ s.belt.state.stopping) (h : P s) : P (enterRun s) := by
  unfold Machine.enterRun
  rw [handEvent_eq]
  exact K.moveBelt _ _ (fun hst => absurd hst hs) (fun he => he.handed _ _) h

/-! ## Decisions -/

theorem countHit {s : State} (route : Option (Fin 32)) (h : P s) : P (countHit route s) := by
  unfold Machine.countHit
  split
  · exact K.routes _ (withHit_apart _) h
  · exact h

theorem moveCursor {s : State} (group : Option (Fin 8)) (l : LaneId) (h : P s) :
    P (moveCursor group l s) := by
  unfold Machine.moveCursor
  split
  · exact K.cursors _ h
  · exact h

theorem advanceDecision {s : State} (h : P s) : P (advanceDecision s) :=
  K.tracking _ (by simp [CountsKept, State.placesHeld]) h

end KeptWrites
end

/-! ## The lane a selection names accepts the item -/

theorem rejectTry_accepts {s : State} {lead : Word} {route : Option (Fin 32)} {l : LaneId}
    (h : (s.rejectTry lead route).lane = some l) : s.offerAccepted lead l = true := by
  unfold State.rejectTry at h
  split at h
  · split at h
    · rename_i m _ hm; cases h; exact hm
    · cases h
  · cases h

theorem search_accepts {s : State} {lead : Word} {g : Fin 8} {l : LaneId}
    (h : s.search lead g = some l) : s.offerAccepted lead l = true := List.find?_some h

theorem overflowTry_accepts {s : State} {lead : Word} {route : Option (Fin 32)} {l : LaneId}
    (h : (s.overflowTry lead route).lane = some l) : s.offerAccepted lead l = true := by
  unfold State.overflowTry at h
  split at h
  · rename_i g m hm
    cases h
    obtain ⟨g', -, hg⟩ := Option.bind_eq_some_iff.1 hm
    obtain ⟨m', hs, he⟩ := Option.map_eq_some_iff.1 hg
    cases he
    exact search_accepts hs
  · exact rejectTry_accepts h

theorem groupTry_accepts {s : State} {lead : Word} {g : Fin 8} {reason : Reason}
    {route : Option (Fin 32)} {l : LaneId} (h : (s.groupTry lead g reason route).lane = some l) :
    s.offerAccepted lead l = true := by
  unfold State.groupTry at h
  split at h
  · rename_i m hm; cases h; exact search_accepts hm
  · exact overflowTry_accepts h

theorem laneTry_accepts {s : State} {lead : Word} {m : LaneId} {reason : Reason}
    {route : Option (Fin 32)} {l : LaneId} (h : (s.laneTry lead m reason route).lane = some l) :
    s.offerAccepted lead l = true := by
  unfold State.laneTry at h
  split at h
  · cases h; assumption
  · exact overflowTry_accepts h

theorem fallbackTry_accepts {s : State} {lead : Word} {g : Option (Fin 8)} {reason : Reason}
    {l : LaneId} (h : (s.fallbackTry lead g reason).lane = some l) :
    s.offerAccepted lead l = true := by
  unfold State.fallbackTry at h
  split at h
  · exact groupTry_accepts h
  · cases h

theorem keyTry_accepts {s : State} {lead : Word} {k : Key} {l : LaneId}
    (h : (s.keyTry lead k).lane = some l) : s.offerAccepted lead l = true := by
  unfold State.keyTry at h
  split at h
  · unfold State.targetTry at h
    split at h
    · exact laneTry_accepts h
    · exact groupTry_accepts h
  · exact fallbackTry_accepts h

theorem shortGapTry_accepts {s : State} {lead : Word} {m l : LaneId}
    (h : (s.shortGapTry lead m).lane = some l) : s.offerAccepted lead l = true := by
  unfold State.shortGapTry at h
  dsimp only at h
  split at h
  · cases h; assumption
  · cases h

/-- The lane the selector hands back accepts the item (R100, R101, R104, R107, R108). -/
theorem select_accepts {s : State} {r : Record} {l : LaneId} (h : (s.select r).lane = some l) :
    s.offerAccepted r.lead l = true := by
  unfold State.select at h
  split at h
  · exact laneTry_accepts h
  · split at h
    · exact shortGapTry_accepts h
    · split at h
      · exact keyTry_accepts h
      · exact fallbackTry_accepts h

section
variable {P : State → Prop} (K : KeptOccur P)
include K

namespace KeptOccur

/-! ## Fires, misses and credits -/

theorem takeDwellEnd {s : State} (l : LaneId) (h : P s) : P (takeDwellEnd l s) := by
  unfold Machine.takeDwellEnd
  split
  · exact K.testExit l (K.modifyLane l _ (·.enterRetract) h)
  · exact h

theorem missEntry {s : State} (l : LaneId) (e : Entry) (h : P s) : P (missEntry l e s) :=
  K.faultOccur _ _ (K.testExit l (K.handEvent _ _ (K.giveFate _ _ _
    (K.modifyLane l _ (·.removeEntry e.item) h))))

theorem takeWindowClose {s : State} (l : LaneId) (h : P s) : P (takeWindowClose l s) := by
  unfold Machine.takeWindowClose
  split
  · exact K.missEntry l _ h
  · exact h

theorem creditEntry {s : State} (l : LaneId) (e : Entry) (stamp : Word) (h : P s) :
    P (creditEntry l e stamp s) :=
  K.testExit l (K.handEvent _ _ (K.giveFate _ _ _ (K.modifyLane l _ (·.removeEntry e.item) h)))

theorem fireEntry {s : State} (l : LaneId) {e : Entry} (he : (s.lane l).oldestReserved = some e)
    (h : P s) : P (fireEntry l e s) := by
  have hd := K.takeDwellEnd l (K.modifyRecord e.item (fun r => { r with state := .diverting })
    (K.modifyLane l (fun u => u.fire e s) (fun hu => hu.fire he s) h))
  unfold Machine.fireEntry takeArmedClose
  split
  · exact K.missEntry l e hd
  · exact hd

theorem overrunEntry {s : State} (l : LaneId) (e : Entry) (h : P s) : P (overrunEntry l e s) :=
  K.faultOccur _ _ (K.testExit l (K.enterRunout _ _ (K.modifyLane l _ (·.removeEntry e.item) h)))

theorem takeFire {s : State} (l : LaneId) (h : P s) : P (takeFire l s) := by
  unfold Machine.takeFire
  split
  · rename_i e he
    split
    · split
      · exact K.fireEntry l he h
      · exact K.overrunEntry l e h
    · exact h
  · exact h

theorem takeArmedFire {s : State} (l : LaneId) (fire : Word) (h : P s) :
    P (takeArmedFire l fire s) := by
  unfold Machine.takeArmedFire
  split
  · exact foldl_invariant P _ (fun t _ ht => K.takeFire l ht) _ _ h
  · exact h

theorem recordPlacement {s : State} (item : Nat) (lead : Word) (p : Placement)
    (hp : ∀ l, p.lane = some l → s.offerAccepted lead l = true) (h : P s) :
    P (recordPlacement item lead p s) := by
  unfold Machine.recordPlacement
  dsimp only
  split
  · rename_i l hl
    exact K.takeArmedFire l _ (K.modifyRecord item _ (K.moveCursor _ l
      (K.modifyLane l _ (fun _ => LaneUnit.settled_reserve (hp l hl) _ _ _) h)))
  · exact K.enterRunout item _ (K.modifyRecord item _ h)

theorem decideItem {s : State} (r : Record) (h : P s) : P (decideItem r s) := by
  refine K.recordPlacement _ _ _ (fun l hl => ?_) (K.countHit _ (K.advanceDecision h))
  have ha := select_accepts hl
  have hlane : (Machine.countHit (s.select r).route (Machine.advanceDecision s)).lane l = s.lane l :=
    lane_congr (by simp) l
  simpa only [State.offerAccepted, State.offerPosition, hlane] using ha

theorem decideOldest {s : State} (h : P s) : P (decideOldest s) := by
  unfold Machine.decideOldest
  split
  · split
    · exact K.decideItem _ h
    · exact h
  · exact h

theorem takeDueDecisions {s : State} (h : P s) : P (takeDueDecisions s) :=
  foldl_invariant P _ (fun _ _ ht => K.decideOldest ht) _ _ h

theorem takeDecision {s : State} (item : Nat) (h : P s) : P (takeDecision item s) :=
  K.takeDueDecisions (K.modifyRecord item _ h)

/-! ## Edges -/

theorem takeJam {s : State} (h : P s) : P (takeJam s) := K.faultOccur _ _ (K.induction _ h)

theorem armJam {s : State} (p : Word) (h : P s) : P (armJam p s) := by
  unfold Machine.armJam
  split
  · exact K.takeJam h
  · exact K.induction _ h

theorem rearmJam {s : State} (h : P s) : P (rearmJam s) := by
  unfold Machine.rearmJam
  split
  case h_1 | h_2 => exact K.armJam _ h
  all_goals exact h

theorem setPrevTrail {s : State} (stamp : Word) (h : P s) : P (setPrevTrail stamp s) := by
  unfold Machine.setPrevTrail
  split <;> exact K.induction _ h

end KeptOccur
end

section
variable {P : State → Prop} (K : Kept P)
include K

namespace Kept

theorem entryBlocked {s : State} (stamp : Word) (h : P s) : P (entryBlocked stamp s) := by
  unfold Machine.entryBlocked
  split
  · exact K.armJam _ (K.induction _ h)
  all_goals exact h

theorem confirmEdge {s : State} (l : LaneId) (blocked : Bool) (stamp : Word) (h : P s) :
    P (confirmEdge l blocked stamp s) := by
  have hjam := K.modifyLane l (·.startJam) (·.startJam) h
  unfold Machine.confirmEdge
  dsimp only
  split
  · split
    · split
      · exact K.creditEntry l _ stamp hjam
      · exact K.faultOccur _ _ hjam
    · exact hjam
  · exact K.modifyLane l _ (fun hu => hu.shrink rfl (.refl _) id) h

theorem becomeFull {s : State} (l : LaneId) (h : P s) : P (becomeFull l s) :=
  K.handEvent _ _ (K.modifyLane l _ (fun hu => hu.shrink rfl (.refl _) id) h)

theorem fullEdge {s : State} (l : LaneId) (active : Bool) (stamp : Word) (h : P s) :
    P (fullEdge l active stamp s) := by
  have hfree := K.modifyLane l (fun u => { u with full := false, fullTimer := none, fullDue := false })
    (fun hu => hu.shrink rfl (.refl _) id) h
  unfold Machine.fullEdge
  dsimp only
  split
  · split
    · exact K.becomeFull l h
    · exact K.modifyLane l _ (fun hu => hu.shrink rfl (.refl _) id) h
  · split
    · exact K.handEvent _ _ hfree
    · exact hfree

/-- An accepted edge (R9, R10): the emergency stop's is a write of its own, since it is ESTOP's
condition too. -/
theorem acceptEdge {s : State} (i : SensorInput) (stamp : Word) (h : P s) :
    P (acceptEdge i stamp s) := by
  by_cases hi : i = .emergencyStop
  · subst hi; exact K.estopEdge stamp h
  have hset := K.setSensor i { s.sensor i with accepted := !(s.sensor i).accepted, candidate := none }
    (.inr hi) h
  unfold Machine.acceptEdge
  dsimp only
  cases i with
  | entryEye =>
    simp only [handEdge]
    split
    · exact K.entryBlocked stamp hset
    · exact K.entryClear stamp hset
  | confirmEye l => exact K.confirmEdge l _ stamp hset
  | fullSensor l => exact K.fullEdge l _ stamp hset
  | emergencyStop => exact absurd rfl hi

theorem acceptDue {s : State} (i : SensorInput) (h : P s) : P (acceptDue i s) := by
  unfold Machine.acceptDue
  split
  · split
    · exact K.acceptEdge i _ h
    · exact h
  · exact h

theorem acceptAll {s : State} (h : P s) : P (acceptAll s) := by
  refine foldl_invariant P _ (fun t i ht => ?_) _ _ h
  split
  · exact K.acceptEdge i _ ht
  · exact ht

end Kept
end
end Sys2Proof.Machine
end

section
/-! SUPPORT. A property kept by the part's writes is kept by every row of the table: what a command keeps
follows from `KeptRows`, whose fields are the writes that only one row or two make. -/

namespace Sys2Proof.Machine

/-- `P` is kept between commands, and `Q` while the interpreter applies one, by the writes of `Kept` and by
those that belong to single rows. -/
structure KeptRows (P Q : State → Prop) : Prop where
  between : Kept P
  during : Kept Q
  take : ∀ {s}, s.placesHeld < 8 → P s → Q s
  reply : ∀ {s} f st b, Q s → P (replyTo f st b s)
  busy : ∀ {s} r, s.placesHeld < 12 → P s → P (queueReply r s)
  addFence : ∀ {s} x, s.tracking.fences.length < 4 → Q s →
    P (s.setTracking { s.tracking with fences := s.tracking.fences ++ [x] })
  resetHold : ∀ {s} v, P s → P (s.setResetHold v)
  endReset : ∀ {s} cause fast, P s → P (endReset cause fast s)
  freeRecord : ∀ {s} item, P s → P (freeRecord item s)
  clearFaults : ∀ {s} set, Q s → Q (clearFaults set s)
  changeMasks : ∀ {s} set clear, inSourceSet set .estop = false → inSourceSet clear .estop = false →
    Q s → Q (changeMasks set clear s)
  changeClass : ∀ {s} src cls, src ≠ .estop → Q s → Q (changeClass src cls s)
  lineConfig : ∀ {s} c, Q s → Q (applyLineConfig c s)
  resetConfig : ∀ {s}, Q s → Q (resetConfig s)

/-! ## The entries of the event unit after the rows that write it -/

theorem entriesEnabled_fewer {s t : State} (hs : s.EntriesEnabled)
    (h : ∀ (i : Fin 84) (e : EventEntry), t.events.entries[i] = some e →
      s.events.entries[i] = some e ∧ (s.events.enabled[i] = true → t.events.enabled[i] = true)) :
    t.EntriesEnabled := fun i e he =>
  let ⟨hold, hen⟩ := h i e he
  ⟨hen (hs i e hold).1, (hs i e hold).2⟩

theorem EventUnit.enable_entry (e : EventUnit) (a : EnableArgs) (i : Fin 84) :
    (e.enable a).entries[i] = if a.names i && !a.on then none else e.entries[i] := by
  simp [EventUnit.enable]

theorem EventUnit.enable_enabled (e : EventUnit) (a : EnableArgs) (i : Fin 84) :
    (e.enable a).enabled[i] = if a.names i then a.on else e.enabled[i] := by
  simp [EventUnit.enable]

theorem State.EntriesEnabled.enable {s : State} (hs : s.EntriesEnabled) (a : EnableArgs) :
    (s.setEvents (s.events.enable a)).EntriesEnabled := by
  refine entriesEnabled_fewer hs fun i e he => ?_
  rw [setEvents_events] at he ⊢
  rw [EventUnit.enable_entry] at he
  rw [EventUnit.enable_enabled]
  cases hn : a.names i <;> cases hon : a.on <;> simp_all

theorem EventUnit.takeEntry_entry (e : EventUnit) (i j : Fin 84) :
    (e.takeEntry i).entries[j] = if j = i then none else e.entries[j] := by
  by_cases hj : j = i
  · subst hj; simp [EventUnit.takeEntry]
  · have hne : i.val ≠ j.val := fun h => hj (Fin.ext h.symm)
    simp [EventUnit.takeEntry, hj, hne]

/-- What taking entries out in turn leaves of each (R166). -/
theorem EventUnit.takeEntries_entry (taken : List (Fin 84)) (e : EventUnit) (j : Fin 84) :
    (taken.foldl EventUnit.takeEntry e).entries[j] =
      if j ∈ taken then none else e.entries[j] := by
  induction taken generalizing e with
  | nil => rfl
  | cons i taken ih =>
    rw [List.foldl_cons, ih, EventUnit.takeEntry_entry]
    by_cases h : j ∈ taken <;> by_cases hi : j = i <;> simp [h, hi]

theorem EventUnit.takeEntries_enabled (taken : List (Fin 84)) (e : EventUnit) :
    (taken.foldl EventUnit.takeEntry e).enabled = e.enabled :=
  foldl_keeps EventUnit.enabled EventUnit.takeEntry (fun _ _ => rfl) taken e

theorem State.EntriesEnabled.takeEntries {s : State} (hs : s.EntriesEnabled)
    (taken : List (Fin 84)) :
    (s.setEvents (taken.foldl EventUnit.takeEntry s.events)).EntriesEnabled := by
  refine entriesEnabled_fewer hs fun i e he => ?_
  rw [setEvents_events] at he ⊢
  rw [EventUnit.takeEntries_entry] at he
  split at he
  · cases he
  · exact ⟨he, by rw [EventUnit.takeEntries_enabled]; exact id⟩

theorem State.EntriesEnabled.settings {s : State} (hs : s.EntriesEnabled)
    (r : Option ReportSettings) : (s.setEvents (s.events.settings r)).EntriesEnabled := by
  cases r with
  | none => exact hs
  | some r => exact entriesEnabled_congr (s := s) rfl rfl hs

theorem State.EntriesEnabled.cleared (s : State) (v : EventUnit)
    (hv : v.entries = Vector.replicate 84 none) : (s.setEvents v).EntriesEnabled := by
  intro i e he
  simp [hv] at he

/-! ## The route table after the rows that write it -/

theorem RouteEntry.overlaps_comm (a b : RouteEntry) : a.overlaps b = b.overlaps a := by
  have hplan : decide (a.plan = b.plan) = decide (b.plan = a.plan) := by simp [eq_comm]
  unfold RouteEntry.overlaps
  rw [BitVec.xor_comm a.key, BitVec.or_comm a.mask, Bool.or_comm a.allPlans, hplan]

theorem RouteTable.put_entry (t : RouteTable) (i j : Fin 32) (e : RouteEntry) :
    (t.put i e).entries[j] = if j = i then e else t.entries[j] := by
  by_cases hj : j = i
  · subst hj; simp [RouteTable.put]
  · have hne : i.val ≠ j.val := fun h => hj (Fin.ext h.symm)
    simp [RouteTable.put, hj, hne]

/-- No conflict is found exactly where no other valid entry overlaps (R81). -/
theorem RouteTable.conflict_none {t : RouteTable} {i : Fin 32} {e : RouteEntry} :
    t.conflict i e = none ↔
      ∀ j : Fin 32, j ≠ i → t.entries[j].valid = true → t.entries[j].overlaps e = false := by
  unfold RouteTable.conflict
  simp [List.find?_eq_none]

/-- An entry that overlaps no other valid one keeps the entries apart (R79, R81). -/
theorem State.RoutesApart.put {s : State} (hs : s.RoutesApart) {i : Fin 32} {e : RouteEntry}
    (h : s.routes.conflict i e = none) {v : RouteTable}
    (hv : v.entries = (s.routes.put i e).entries) : (s.setRoutes v).RoutesApart := by
  rw [RouteTable.conflict_none] at h
  intro j k hjk hj hk
  simp only [setRoutes_routes, hv, RouteTable.put_entry] at hj hk ⊢
  by_cases hji : j = i
  · subst hji
    have hk' := h k hjk.symm (by simpa [hjk.symm] using hk)
    simpa [hjk.symm, RouteEntry.overlaps_comm e] using hk'
  · by_cases hki : k = i
    · subst hki
      simpa [hji] using h j hji (by simpa [hji] using hj)
    · simpa [hji, hki] using hs j k hjk (by simpa [hji] using hj) (by simpa [hki] using hk)

theorem RouteTable.clear_entry (t : RouteTable) (c : ClearScope) (i : Fin 32) :
    (t.clear c).entries[i] = if c.names t i then .cleared else t.entries[i] := by
  simp [RouteTable.clear]

theorem State.RoutesApart.clear {s : State} (hs : s.RoutesApart) (c : ClearScope) :
    (s.setRoutes (s.routes.clear c)).RoutesApart := by
  intro i j hij hi hj
  simp only [setRoutes_routes, RouteTable.clear_entry] at hi hj ⊢
  split at hi
  · cases hi
  · split at hj
    · cases hj
    · simp only [*]
      exact hs i j hij hi hj

theorem RouteTable.reset_entry (i : Fin 32) : RouteTable.reset.entries[i] = .cleared := by
  simp [RouteTable.reset]

theorem State.RoutesApart.of_reset {s : State} (h : s.routes = RouteTable.reset) :
    s.RoutesApart := by
  intro i j _ hi
  rw [h, RouteTable.reset_entry] at hi
  cases hi

section
variable {P Q : State → Prop} (K : KeptRows P Q)
include K

namespace KeptRows

/-! ## The position unit's rows -/

theorem reachTriggers {s : State} (c : Word) (h : P s) : P (reachTriggers c s) := by
  refine K.between.lanes _ (fun l hl => ?_) (K.between.tracking _ ?_ (K.between.infeed _
    ⟨rfl, rfl, rfl, rfl, by simp [Infeed.step]⟩ (K.between.induction _ h)))
  · have hread : (Vector.ofFn fun i : Fin 16 => s.lanes[i].step c)[l] = (s.lane l).step c := by
      simp [State.lane]
    rw [hread]
    exact LaneUnit.Settled.step hl c
  · simp [CountsKept, State.placesHeld]

omit K in
/-- A write of the position unit that keeps the sensors keeps the accepted levels. -/
theorem accepted_of_sensors {s : State} {v : PositionUnit} (h : v.sensors = s.position.sensors)
    (i : SensorInput) : (s.setPosition v).accepted i = s.accepted i := by
  simp [State.accepted, State.sensor, h]

omit K in
theorem step_belt_state (b : BeltDrive) (d : Word) : (b.step d).state = b.state := rfl

theorem forwardStep {s : State} (h : P s) : P (forwardStep s) := by
  have hstep := fun v hv => K.between.belt (s := s.setPosition v) (s.belt.step 1)
    (step_belt_state ..) (K.between.position v (accepted_of_sensors hv _) h)
  exact K.reachTriggers _ (hstep _ rfl)

theorem backwardStep {s : State} (h : P s) : P (backwardStep s) := by
  have hstep := fun v hv => K.between.belt (s := s.setPosition v) (s.belt.step (-1))
    (step_belt_state ..) (K.between.position v (accepted_of_sensors hv _) h)
  unfold Machine.backwardStep
  dsimp only
  split
  · exact K.between.faultOccur _ _ (hstep _ rfl)
  · exact hstep _ rfl

theorem takeSample {s : State} (now : LevelPair) (h : P s) : P (takeSample now s) := by
  have hpos := K.between.position (s := s) { s.position with encoder := now } rfl h
  unfold Machine.takeSample whenRunning
  dsimp only
  split
  · split
    · exact K.forwardStep hpos
    · exact K.backwardStep hpos
    · exact hpos
    · exact K.between.faultOccur _ _ hpos
  · exact hpos

theorem filterLevel {s : State} (i : SensorInput) (level : Bool) (h : P s) :
    P (filterLevel i level s) := by
  unfold Machine.filterLevel
  dsimp only
  split
  · exact K.between.setSensor i _ (.inl rfl) h
  · split
    · exact h
    · split
      · exact K.between.acceptEdge i _ h
      · exact K.between.setSensor i _ (.inl rfl) h

omit K in
/-- A row that acts where it is due keeps what its effect keeps. -/
theorem whenDue {s : State} {c : Bool} {f : State → State} (hf : P s → P (f s)) (h : P s) :
    P (whenDue c f s) := by
  unfold Machine.whenDue
  split
  · exact hf h
  · exact h

omit K in
theorem whenRunning {s : State} {f : State → State} (hf : P s → P (f s)) (h : P s) :
    P (whenRunning s f) := by
  unfold Machine.whenRunning
  split
  · exact hf h
  · exact h

theorem sensorChange {s : State} (i : SensorInput) (level : Bool) (h : P s) :
    P (Machine.whenRunning (s.setSensor i { s.sensor i with raw := level }) fun t =>
      Machine.filterLevel i level (acceptDue i t)) :=
  whenRunning (fun hs => K.filterLevel i level (K.between.acceptDue i hs))
    (K.between.setSensor i _ (.inl rfl) h)

/-! ## The belt drive's rows -/

omit K in
/-- A tick leaves every accepted level. -/
theorem tick_accepted (s : State) (i : SensorInput) :
    (s.setPosition (s.position.tick s.line.filterTime)).accepted i = s.accepted i := by
  simp [State.accepted, State.sensor, PositionUnit.tick]

theorem tickTimers {s : State} (h : P s) : P (tickTimers s) := by
  refine K.between.link _ ⟨id, le_rfl, .refl _⟩ (K.between.events _ (entriesEnabled_congr rfl rfl)
    (K.between.lanes _ (fun l hl => ?_) (K.between.position _ (tick_accepted s _) h)))
  have hread : (Vector.ofFn fun i : Fin 16 => s.lanes[i].tick)[l] = (s.lane l).tick := by
    simp [State.lane]
  rw [hread]
  exact LaneUnit.Settled.tick hl

omit K in
theorem tick_belt_state (b : BeltDrive) : b.tick.state = b.state := by
  unfold BeltDrive.tick BeltDrive.tickStandstill BeltDrive.tickStall BeltDrive.ramp
  dsimp only
  split <;> [rfl; (split <;> rfl)]

omit K in
theorem not_stopping_of_atTarget {b : BeltDrive} (h : b.atTarget = true) : ¬ b.state.stopping := by
  unfold BeltDrive.atTarget at h
  cases hb : b.state <;> simp_all

theorem watchSlip {s : State} (h : P s) : P (watchSlip s) := by
  have hbelt := K.between.belt (s := s) { s.belt with
    deviation := s.belt.newDeviation, slipAbove := s.belt.aboveLimit } rfl h
  unfold Machine.watchSlip
  dsimp only
  split
  · split
    · exact K.between.faultOccur _ _ hbelt
    · exact hbelt
  · exact h

theorem reachTarget {s : State} (h : P s) : P (reachTarget s) := by
  unfold Machine.reachTarget
  split
  · exact K.between.enterRun (not_stopping_of_atTarget ‹_›) h
  · exact h

theorem tick {s : State} (h : P s) : P (tick s) :=
  K.watchSlip (K.reachTarget (K.between.belt _ (tick_belt_state _) (K.tickTimers h)))

theorem enterStopped {s : State} (h : P s) : P (enterStopped s) := by
  unfold Machine.enterStopped
  rw [handEvent_eq]
  exact K.between.moveBelt _ _ (fun _ => .inr (.inr rfl)) (fun he => he.handed _ _) h

/-! ## The link's rows -/

theorem setReceiver {s : State} (r : Receiver) (h : P s) : P (setReceiver r s) :=
  K.between.link _ ⟨id, le_rfl, .refl _⟩ h

theorem discardFrame {s : State} (h : P s) : P (discardFrame s) :=
  K.between.faultOccur _ _ (K.setReceiver _ h)

theorem queueCommand {s : State} (f : Frame) (h : P s) : P (queueCommand f s) := by
  unfold Machine.queueCommand
  split
  · rename_i hlen
    have hlen : s.link.commands.length < 4 := hlen
    exact K.between.link _ ⟨fun _ => by simp; omega, le_rfl, .refl _⟩ h
  · split
    · exact K.between.faultOccur _ _ (K.busy _ ‹_› h)
    · exact K.between.faultOccur _ _ h

theorem completeFrame {s : State} (got : List Byte) (h : P s) : P (completeFrame got s) := by
  unfold Machine.completeFrame
  split
  · split
    · unfold takeGoodFrame
      split
      · exact K.queueCommand _ (K.setReceiver _ h)
      · exact K.between.faultOccur _ _ (K.setReceiver _ h)
    · exact K.discardFrame h
  · exact K.discardFrame h

theorem extendFrame {s : State} (got : List Byte) (byte : Byte) (h : P s) :
    P (extendFrame got byte s) := by
  unfold Machine.extendFrame
  split
  · split
    · exact K.setReceiver _ h
    · exact K.discardFrame h
  · split
    · exact K.completeFrame _ h
    · exact K.setReceiver _ h

theorem takeByte {s : State} (byte : Byte) (stop : Bool) (h : P s) : P (takeByte byte stop s) := by
  unfold Machine.takeByte
  split
  · split
    · exact K.setReceiver _ h
    · exact h
  · split
    · exact K.extendFrame _ _ h
    · exact K.discardFrame h

theorem takeGapTimeout {s : State} (h : P s) : P (takeGapTimeout s) := by
  unfold Machine.takeGapTimeout
  split
  · exact K.discardFrame h
  · exact h

theorem takeEventReport {s : State} (h : P s) : P (takeEventReport s) := by
  unfold Machine.takeEventReport
  split
  · rename_i i _ _
    split
    · have hev := K.between.events (s.events.takeEntry i) (fun hs => hs.takeEntries [i]) h
      exact K.between.link _ ⟨id, le_rfl, .refl _⟩ hev
    · exact h
  · exact h

theorem takeFrame {s : State} (h : P s) : P (takeFrame s) := by
  unfold Machine.takeFrame
  split
  · rename_i hr; exact K.between.link _ ⟨id, by simp [hr], .refl _⟩ h
  · exact K.between.link _ ⟨id, le_rfl, .refl _⟩ h
  · rename_i hr
    exact K.between.link _ ⟨id, le_rfl, by simp [hr]⟩ h
  · split
    · exact K.takeEventReport h
    · exact h

theorem frameSent {s : State} (f : OutFrame) (h : P s) : P (frameSent f s) := by
  have hidle := K.between.link (s := s) { s.link with sending := none } ⟨id, le_rfl, .refl _⟩ h
  unfold Machine.frameSent
  dsimp only
  split
  · exact K.freeRecord _ hidle
  · exact K.between.events _ (entriesEnabled_congr rfl rfl) hidle
  all_goals exact hidle

theorem holdReset {s : State} (cause : ResetCause) (h : P s) : P (holdReset cause s) :=
  K.between.link _ ⟨id, le_rfl, .refl _⟩
    (K.between.events _ (entriesEnabled_congr rfl rfl) (K.resetHold _ h))

/-! ## The host's commands -/

/-- A command keeps `P` where its answer does, in a state where `Q` holds. -/
theorem onFrame {s : State} (p : Frame → Bool) (body : Frame → State → State)
    (hbody : ∀ f t, p f = true → Q t → P (body f t)) (h : P s) : P (onFrame p body s) := by
  unfold Machine.onFrame
  split
  · rename_i hc
    rw [State.canTake, Bool.and_eq_true, Bool.and_eq_true, decide_eq_true_iff] at hc
    obtain ⟨⟨-, hlt⟩, hp⟩ := hc
    split
    · rename_i f rest hcmd
      refine hbody f _ (by simpa [hcmd] using hp) ?_
      exact K.during.link _ ⟨fun hl => by simp; omega, le_rfl, .refl _⟩ (K.take hlt h)
    · exact h
  · exact h

theorem onCommand {α : Type} {s : State} (k : Byte) (parse : List Byte → Option α)
    (body : α → Frame → State → State)
    (hbody : ∀ x f t, parse f.payload = some x → Q t → P (body x f t)) (h : P s) :
    P (onCommand k parse body s) := by
  refine K.onFrame _ _ (fun f t _ ht => ?_) h
  unfold withArgs
  split
  · exact hbody _ f t ‹_› ht
  · exact K.reply _ _ _ ht

theorem onScoped {α : Type} {s : State} (p : Frame → Bool) (parse : List Byte → Option α)
    (body : α → Frame → State → State) (hbody : ∀ x f t, Q t → P (body x f t)) (h : P s) :
    P (Machine.onFrame p (withArgs parse body) s) := by
  refine K.onFrame _ _ (fun f t _ ht => ?_) h
  unfold withArgs
  split
  · exact hbody _ f t ht
  · exact K.reply _ _ _ ht

theorem answerBeltConfig {s : State} (c : Option BeltSettings) (f : Frame) (h : Q s) :
    P (answerBeltConfig c f s) := by
  unfold Machine.answerBeltConfig
  split
  · exact K.reply _ _ _ h
  · split
    · exact K.reply _ _ _ (K.during.belt _ rfl h)
    · exact K.reply _ _ _ h

theorem answerBeltStart {s : State} (speed : Nat) (f : Frame) (h : Q s) :
    P (answerBeltStart speed f s) := by
  unfold Machine.answerBeltStart
  split
  · exact K.reply _ _ _ h
  · split
    · exact K.reply _ _ _ h
    · split
      · exact K.reply _ _ _ h
      · exact K.reply _ _ _ (K.during.startBelt _ (by simpa using ‹¬ s.belt.state ≠ .stopped›)
          (by simpa using ‹¬ s.stoppingFault = true›) rfl h)

theorem changeSpeed {s : State} (speed : Nat) (hs : ¬ s.belt.state.stopping) (h : Q s) :
    Q (changeSpeed speed s) := by
  unfold Machine.changeSpeed
  dsimp only
  split
  · exact K.during.chooseBelt _ (fun hst => absurd hst hs) h
  · split
    · exact K.during.chooseBelt _ (fun hst => absurd hst hs) h
    · split
      · exact K.during.belt _ rfl h
      · exact K.during.enterRun hs (K.during.belt _ rfl h)

theorem answerBeltSpeed {s : State} (speed : Nat) (f : Frame) (h : Q s) :
    P (answerBeltSpeed speed f s) := by
  unfold Machine.answerBeltSpeed
  split
  case h_1 hb | h_2 hb | h_3 hb =>
    exact K.reply _ _ _ (K.changeSpeed speed (by simp [hb]) h)
  all_goals exact K.reply _ _ _ h

theorem answerBeltStop {s : State} (m : StopMode) (f : Frame) (h : Q s) :
    P (answerBeltStop m f s) := by
  refine K.reply _ _ _ ?_
  cases m with
  | ramped => exact K.during.beltHalt h
  | immediate => exact K.during.beltBrake h

theorem answerEventRead {s : State} (n : Nat) (f : Frame) (h : Q s) : P (answerEventRead n f s) :=
  K.reply _ _ _ (K.during.events _ (fun hs => hs.takeEntries _) h)

theorem answerStatus {s : State} (f : Frame) (h : Q s) : P (answerStatus f s) :=
  K.reply _ _ _ (K.during.link _ ⟨id, le_rfl, .refl _⟩ h)

theorem injectFaults {s : State} (set : BitVec 16) (lane : Option LaneId) (h : Q s) :
    Q (injectFaults set lane s) := by
  refine foldl_invariant Q _ (fun t f ht => ?_) _ _ h
  split
  · exact K.during.faultOccur _ _ ht
  · exact ht

theorem resetTrack {s : State} (h : Q s) : Q (resetTrack s) :=
  K.during.chooseInfeed (K.during.clearTracks h)

theorem resetEvents {s : State} (h : Q s) : Q (resetEvents s) :=
  K.during.events _ (fun _ => .cleared _ _ rfl) h

theorem answerLaneConfig {s : State} (l : LaneId) (g : Geometry) (f : Frame) (h : Q s) :
    P (answerLaneConfig l g f s) := by
  have hset := K.during.modifyLane l (·.configure g) (·.configure g) h
  unfold Machine.answerLaneConfig applyLaneConfig
  split
  · refine K.reply _ _ _ ?_
    split
    · exact K.during.becomeFull l hset
    · exact hset
  · exact K.reply _ _ _ h

/-- Making a settled lane open, or an idle one DISABLED, leaves it settled (R115 to R117). -/
theorem setOpen {s : State} (l : LaneId) (x : LaneState) (hx : x = .enabled ∨ x = .draining)
    (h : Q s) : Q (modifyLane l (fun u => { u with state := x }) s) :=
  K.during.modifyLane l _ (fun hu => LaneUnit.settled_of_open hx hu.1) h

theorem answerEnable {s : State} (l : LaneId) (f : Frame) (h : Q s) : P (answerEnable l f s) := by
  have hen : P (enableLane l f s) := by
    unfold enableLane
    split
    · exact K.reply _ _ _ h
    · exact K.reply _ _ _ (K.setOpen l _ (.inl rfl) h)
  unfold Machine.answerEnable
  split
  case h_1 | h_2 | h_3 => exact hen
  all_goals exact K.reply _ _ _ h

theorem answerDrain {s : State} (l : LaneId) (f : Frame) (h : Q s) : P (answerDrain l f s) := by
  unfold Machine.answerDrain
  split
  case h_1 => exact K.reply _ _ _ (K.during.testExit l (K.setOpen l _ (.inr rfl) h))
  all_goals exact K.reply _ _ _ h

theorem disableLane {s : State} (l : LaneId) (h : Q s) : Q (disableLane l s) := by
  unfold Machine.disableLane
  split
  case h_1 | h_2 => exact K.during.closing _ _ h
  case h_3 hs =>
    exact K.during.modifyLane l _ (fun hu => by simpa [LaneUnit.Settled, hs] using hu) h
  all_goals exact h

theorem answerRouteWrite {s : State} (i : Fin 32) (e : RouteEntry) (f : Frame) (h : Q s) :
    P (answerRouteWrite i e f s) := by
  unfold Machine.answerRouteWrite
  split
  · exact K.reply _ _ _ h
  · exact K.reply _ _ _ (K.during.routes _ (fun hs => hs.put ‹_› rfl) h)

theorem answerRouteWriteNext {s : State} (e : RouteEntry) (f : Frame) (h : Q s) :
    P (answerRouteWriteNext e f s) := by
  unfold Machine.answerRouteWriteNext
  split
  · exact K.reply _ _ _ h
  · split
    · exact K.reply _ _ _ h
    · exact K.reply _ _ _ (K.during.routes _ (fun hs => hs.put ‹_› rfl) h)

theorem answerRouteProbe {s : State} (key : Key) (plan : Fin 16) (f : Frame) (h : Q s) :
    P (answerRouteProbe key plan f s) := by
  unfold Machine.answerRouteProbe
  split <;> exact K.reply _ _ _ h

theorem claimWaiting {s : State} (item : Nat) (change : Record → Record) (f : Frame) (h : Q s) :
    P (claimWaiting item change f s) := by
  unfold Machine.claimWaiting
  split
  · split
    · exact K.reply _ _ _ (K.during.modifyRecord _ _ h)
    · exact K.reply _ _ _ h
  · exact K.reply _ _ _ h

theorem refuseCancel {s : State} (f : Frame) (st : Status) (item : Nat) (h : Q s) :
    P (refuseCancel f st item s) := K.reply _ _ _ (K.during.freeCount _ h)

theorem cancelWaiting {s : State} (item : Nat) (h : Q s) : Q (cancelWaiting item s) :=
  K.during.takeDueDecisions (K.during.enterRunout _ _ (K.during.modifyRecord _ _
    (K.during.advanceDecision h)))

theorem cancelReserved {s : State} (item : Nat) (l : LaneId) (h : Q s) :
    Q (cancelReserved item l s) :=
  K.during.enterRunout _ _ (K.during.testExit l (K.during.modifyLane l _
    (·.removeReserved item) h))

theorem answerCancel {s : State} (item : Nat) (f : Frame) (h : Q s) : P (answerCancel item f s) := by
  unfold Machine.answerCancel
  split
  · split
    · exact K.reply _ _ _ (K.cancelWaiting item h)
    · unfold answerCancelReserved
      split
      · split
        · exact K.reply _ _ _ (K.cancelReserved item _ h)
        · exact K.refuseCancel _ _ _ h
      · exact K.refuseCancel _ _ _ h
    · exact K.refuseCancel _ _ _ h
    · exact K.reply _ _ _ h
  · exact K.refuseCancel _ _ _ h

theorem answerTrackRead {s : State} (first : Option Nat) (n : Nat) (f : Frame) (h : Q s) :
    P (answerTrackRead first n f s) := by
  unfold Machine.answerTrackRead
  split <;> exact K.reply _ _ _ h

theorem answerItemRead {s : State} (item : Nat) (f : Frame) (h : Q s) :
    P (answerItemRead item f s) := by
  unfold Machine.answerItemRead
  split <;> exact K.reply _ _ _ h

theorem answerFence {s : State} (scope : FenceScope) (f : Frame) (h : Q s) :
    P (answerFence scope f s) := by
  unfold Machine.answerFence
  split
  · exact K.reply _ _ _ h
  · split
    · exact K.addFence _ ‹_› h
    · exact K.reply _ _ _ h

end KeptRows
end

/-! ## Sources a legal payload does not name -/

/-- No legal FAULT_MASK names ESTOP (R156). -/
theorem parseFaultMask_estop {p : List Byte} {set clear : BitVec 16}
    (h : parseFaultMask p = some (set, clear)) :
    inSourceSet set .estop = false ∧ inSourceSet clear .estop = false := by
  simp only [parseFaultMask, Option.bind_eq_bind, Option.bind_eq_some_iff] at h
  obtain ⟨-, -, a, -, b, -, h⟩ := h
  split at h
  · rename_i hc
    obtain ⟨ha, hb, -⟩ := hc
    cases h
    exact ⟨ha, hb⟩
  · cases h

/-- No legal FAULT_ACTION names ESTOP (R157). -/
theorem parseFaultAction_ne_estop {p : List Byte} {src : FaultSource} {cls : ActionClass}
    (h : parseFaultAction p = some (src, cls)) : src ≠ .estop := by
  simp only [parseFaultAction, Option.bind_eq_bind, Option.bind_eq_some_iff] at h
  obtain ⟨-, -, a, -, b, -, h⟩ := h
  split at h
  · cases h
  · cases h; assumption

/-! ## The table -/

section
variable {P Q : State → Prop} (K : KeptRows P Q)
include K

/-- Every command completes, and keeps what the writes keep. -/
theorem KeptRows.exec {s : State} (c : Instr) (h : P s) : ∃ t, exec c s = .next t ∧ P t := by
  cases c
  case powerOn => exact ⟨_, rfl, K.holdReset _ h⟩
  case resetAssert => exact ⟨_, rfl, K.holdReset _ h⟩
  case resetEnd fast =>
    refine ⟨_, rfl, ?_⟩
    split
    · exact K.endReset _ fast h
    · exact h
  case encoderStep a b => exact ⟨_, rfl, K.takeSample _ h⟩
  case phaseError => exact ⟨_, rfl, K.takeSample _ h⟩
  case measuredSpeedUpdate =>
    exact ⟨_, rfl, KeptRows.whenDue (K.between.position _ rfl) h⟩
  case sensorChange i level => exact ⟨_, rfl, K.sensorChange i level h⟩
  case sensorEdgeAccepted i => exact ⟨_, rfl, KeptRows.whenRunning (K.between.acceptDue i) h⟩
  case jamTrigger => exact ⟨_, rfl, KeptRows.whenDue K.between.takeJam h⟩
  case trailExpiry => exact ⟨_, rfl, KeptRows.whenDue (K.between.induction _) h⟩
  case gapReleaseTrigger => exact ⟨_, rfl, KeptRows.whenDue (K.between.choose _) h⟩
  case beltTick => exact ⟨_, rfl, KeptRows.whenRunning K.tick h⟩
  case standstill => exact ⟨_, rfl, KeptRows.whenDue K.enterStopped h⟩
  case encoderStall =>
    exact ⟨_, rfl, KeptRows.whenDue
      (fun hs => K.between.faultOccur _ _ (K.between.belt _ rfl hs)) h⟩
  case decisionTrigger item => exact ⟨_, rfl, KeptRows.whenDue (K.between.takeDecision item) h⟩
  case runoutTrigger item => exact ⟨_, rfl, KeptRows.whenDue (K.between.giveFate item _ _) h⟩
  case fireTrigger l => exact ⟨_, rfl, KeptRows.whenRunning (K.between.takeFire l) h⟩
  case dwellEnd l => exact ⟨_, rfl, KeptRows.whenRunning (K.between.takeDwellEnd l) h⟩
  case retractEnd l =>
    exact ⟨_, rfl, KeptRows.whenDue (K.between.modifyLane l _ (·.enterSettle)) h⟩
  case settleEnd l =>
    exact ⟨_, rfl, KeptRows.whenDue
      (K.between.modifyLane l _ (fun hu => hu.shrink rfl (.refl _) (fun _ => by simp))) h⟩
  case windowCloseTrigger l =>
    exact ⟨_, rfl, KeptRows.whenRunning (K.between.takeWindowClose l) h⟩
  case fullDelayExpiry l => exact ⟨_, rfl, KeptRows.whenDue (K.between.becomeFull l) h⟩
  case laneJamExpiry l =>
    exact ⟨_, rfl, KeptRows.whenDue (fun hs => K.between.faultOccur _ _
      (K.between.modifyLane l _ (fun hu => hu.shrink rfl (.refl _) id) hs)) h⟩
  case lastFireExpiry l =>
    exact ⟨_, rfl, KeptRows.whenDue
      (K.between.modifyLane l _ (fun hu => hu.shrink rfl (.refl _) id)) h⟩
  case spacingTimerExpiry => exact ⟨_, rfl, h⟩
  case receiveByte byte stop =>
    exact ⟨_, rfl, KeptRows.whenRunning (fun hs => K.takeByte byte stop (K.takeGapTimeout hs)) h⟩
  case byteGapTimeout => exact ⟨_, rfl, KeptRows.whenRunning K.takeGapTimeout h⟩
  case arbiterTake => exact ⟨_, rfl, KeptRows.whenDue K.takeFrame h⟩
  case frameSent =>
    refine ⟨_, rfl, KeptRows.whenRunning (fun hs => ?_) h⟩
    split
    · exact K.frameSent _ hs
    · exact hs
  case badKind => exact ⟨_, rfl, K.onFrame _ _ (fun _ _ _ => K.reply _ _ _) h⟩
  case identify => exact ⟨_, rfl, K.onCommand _ _ _ (fun _ _ _ _ => K.reply _ _ _) h⟩
  case status => exact ⟨_, rfl, K.onCommand _ _ _ (fun _ f _ _ => K.answerStatus f) h⟩
  case softResetTrack =>
    exact ⟨_, rfl, K.onScoped _ _ _ (fun _ _ _ ht => K.reply _ _ _ (K.resetTrack ht)) h⟩
  case softResetEvents =>
    exact ⟨_, rfl, K.onScoped _ _ _ (fun _ _ _ ht => K.reply _ _ _ (K.resetEvents ht)) h⟩
  case softResetConfig =>
    refine ⟨_, rfl, K.onScoped _ _ _ (fun _ _ _ ht => ?_) h⟩
    split
    · exact K.reply _ _ _ (K.resetConfig ht)
    · exact K.reply _ _ _ ht
  case lineConfig =>
    refine ⟨_, rfl, K.onCommand _ _ _ (fun _ _ _ _ ht => ?_) h⟩
    split
    · exact K.reply _ _ _ (K.lineConfig _ ht)
    · exact K.reply _ _ _ ht
  case lineRead => exact ⟨_, rfl, K.onCommand _ _ _ (fun _ _ _ _ => K.reply _ _ _) h⟩
  case beltConfig => exact ⟨_, rfl, K.onCommand _ _ _ (fun c f _ _ => K.answerBeltConfig c f) h⟩
  case beltStart => exact ⟨_, rfl, K.onCommand _ _ _ (fun v f _ _ => K.answerBeltStart v f) h⟩
  case beltSpeed => exact ⟨_, rfl, K.onCommand _ _ _ (fun v f _ _ => K.answerBeltSpeed v f) h⟩
  case beltStop => exact ⟨_, rfl, K.onCommand _ _ _ (fun m f _ _ => K.answerBeltStop m f) h⟩
  case infeedSet =>
    exact ⟨_, rfl, K.onCommand _ _ _ (fun _ _ _ _ ht => K.reply _ _ _ (K.during.choose _ ht)) h⟩
  case assign =>
    exact ⟨_, rfl, K.onCommand _ _ _ (fun _ f _ _ ht => K.claimWaiting _ _ f ht) h⟩
  case assignLane =>
    exact ⟨_, rfl, K.onCommand _ _ _ (fun _ f _ _ ht => K.claimWaiting _ _ f ht) h⟩
  case cancel => exact ⟨_, rfl, K.onCommand _ _ _ (fun n f _ _ => K.answerCancel n f) h⟩
  case trackRead =>
    exact ⟨_, rfl, K.onCommand _ _ _ (fun _ f _ _ ht => K.answerTrackRead _ _ f ht) h⟩
  case itemRead => exact ⟨_, rfl, K.onCommand _ _ _ (fun n f _ _ => K.answerItemRead n f) h⟩
  case fence => exact ⟨_, rfl, K.onCommand _ _ _ (fun x f _ _ => K.answerFence x f) h⟩
  case routeWrite =>
    exact ⟨_, rfl, K.onCommand _ _ _ (fun _ f _ _ ht => K.answerRouteWrite _ _ f ht) h⟩
  case routeWriteNext =>
    exact ⟨_, rfl, K.onCommand _ _ _ (fun e f _ _ => K.answerRouteWriteNext e f) h⟩
  case routeRead => exact ⟨_, rfl, K.onCommand _ _ _ (fun _ _ _ _ => K.reply _ _ _) h⟩
  case routeProbe =>
    exact ⟨_, rfl, K.onCommand _ _ _ (fun _ f _ _ ht => K.answerRouteProbe _ _ f ht) h⟩
  case routeClear =>
    exact ⟨_, rfl, K.onCommand _ _ _ (fun c _ _ _ ht => K.reply _ _ _
      (K.during.routes _ (fun hs => hs.clear c) ht)) h⟩
  case planSelect =>
    exact ⟨_, rfl, K.onCommand _ _ _ (fun _ _ _ _ ht => K.reply _ _ _
      (K.during.routes _ (fun hs => hs) ht)) h⟩
  case groupSet =>
    exact ⟨_, rfl, K.onCommand _ _ _ (fun _ _ _ _ ht => K.reply _ _ _
      (K.during.modifyLane _ _ (fun hu => hu.shrink rfl (.refl _) id) ht)) h⟩
  case groupRead => exact ⟨_, rfl, K.onCommand _ _ _ (fun _ _ _ _ => K.reply _ _ _) h⟩
  case laneConfig =>
    exact ⟨_, rfl, K.onCommand _ _ _ (fun _ f _ _ ht => K.answerLaneConfig _ _ f ht) h⟩
  case laneStateEnable =>
    exact ⟨_, rfl, K.onScoped _ _ _ (fun _ f _ ht => K.answerEnable _ f ht) h⟩
  case laneStateDrain =>
    exact ⟨_, rfl, K.onScoped _ _ _ (fun _ f _ ht => K.answerDrain _ f ht) h⟩
  case laneStateDisable =>
    exact ⟨_, rfl, K.onScoped _ _ _ (fun _ _ _ ht => K.reply _ _ _ (K.disableLane _ ht)) h⟩
  case laneRead => exact ⟨_, rfl, K.onCommand _ _ _ (fun _ _ _ _ => K.reply _ _ _) h⟩
  case faultRead => exact ⟨_, rfl, K.onCommand _ _ _ (fun _ _ _ _ => K.reply _ _ _) h⟩
  case faultClear =>
    exact ⟨_, rfl, K.onCommand _ _ _ (fun set _ _ _ ht => K.reply _ _ _ (K.clearFaults set ht)) h⟩
  case faultMask =>
    exact ⟨_, rfl, K.onCommand _ _ _ (fun _ _ _ hp ht => K.reply _ _ _ (K.changeMasks _ _
      (parseFaultMask_estop hp).1 (parseFaultMask_estop hp).2 ht)) h⟩
  case faultAction =>
    exact ⟨_, rfl, K.onCommand _ _ _ (fun _ _ _ hp ht => K.reply _ _ _ (K.changeClass _ _
      (parseFaultAction_ne_estop hp) ht)) h⟩
  case faultInject =>
    exact ⟨_, rfl, K.onCommand _ _ _ (fun _ _ _ _ ht => K.reply _ _ _
      (K.injectFaults _ _ ht)) h⟩
  case eventEnable =>
    exact ⟨_, rfl, K.onCommand _ _ _ (fun a _ _ _ ht => K.reply _ _ _
      (K.during.events _ (fun hs => hs.enable a) ht)) h⟩
  case eventRead => exact ⟨_, rfl, K.onCommand _ _ _ (fun n f _ _ => K.answerEventRead n f) h⟩
  case reportSet =>
    exact ⟨_, rfl, K.onCommand _ _ _ (fun r _ _ _ ht => K.reply _ _ _
      (K.during.events _ (fun hs => hs.settings r) ht)) h⟩

/-- A step keeps what the writes keep, where the queue of commands does not bear on it. -/
theorem KeptRows.step {s t : State} (hq : ∀ {s} v, P s → P (s.setPending v)) (h : P s)
    (ht : step s = .next t) : P t := by
  unfold Machine.step at ht
  split at ht
  · obtain ⟨u, hu, hP⟩ := K.exec _ (hq _ h)
    rw [hu] at ht
    cases ht
    exact hP
  · cases ht
    exact h

end
end Sys2Proof.Machine
end

section
/-! SUPPORT. A property that free writes of the fault unit, the belt drive, the infeed and the line
configuration keep is kept by every row: `Inert` names the writes such a property is about. -/

namespace Sys2Proof.Machine

section
variable {P : State → Prop} (occur : ∀ {s : State} (f : FaultSource) (lane : Option LaneId),
  P s → P (faultOccur f lane s))
include occur

/-- What occurrences keep, the re-latch of level sources keeps (R142, R155). -/
theorem relatchSet_invariant {s : State} (set : BitVec 16) (h : P s) : P (relatchSet set s) := by
  refine foldl_invariant P _ (fun t f ht => ?_) _ _ h
  split
  · unfold relatch
    split
    · split
      · refine forLanes_invariant P _ (fun l u hu => ?_) _ ht
        split
        · exact occur _ _ hu
        · exact hu
      · exact occur _ _ ht
    · exact ht
  · exact ht

end

section
variable {P : State → Prop} (K : KeptOccur P)
  (append : ∀ {s : State} (r : Record), s.freeRecords ≠ 0 → P s →
    P (s.setTracking { s.tracking with list := s.tracking.list ++ [r] }))
  (gap : ∀ {s : State} (v : Option Trigger), P s → P (s.setInfeed { s.infeed with gapRelease := v }))
include K append

namespace KeptOccur

/-! ## The entry eye's edge to clear -/

theorem claimRecord {s : State} (lead stamp : Word) (n : Nat) (sg : Bool) (hf : s.freeRecords ≠ 0)
    (h : P s) : P (claimRecord lead stamp n sg s) :=
  K.setPrevTrail _ (K.link _ ⟨id, le_rfl, .refl _⟩ (K.induction _ (append _ hf h)))

theorem checkPool {s : State} (lead stamp : Word) (n : Nat) (sg : Bool) (h : P s) :
    P (checkPool lead stamp n sg s) := by
  unfold Machine.checkPool
  split
  · exact K.faultOccur _ _ (K.setPrevTrail _ h)
  · have hclaim := K.claimRecord append lead stamp n sg ‹_› h
    unfold induct
    dsimp only
    split
    · exact K.takeDecision _ hclaim
    · exact hclaim

theorem endMeasurement {s : State} (stamp : Word) (h : P s) : P (endMeasurement stamp s) := by
  unfold Machine.endMeasurement
  split
  · have hend := K.induction (s := s) { s.induction with measurement := .clear, jamTrigger := none } h
    unfold checkLength
    dsimp only
    split
    · exact K.faultOccur _ _ hend
    · split
      · exact K.faultOccur _ _ hend
      · unfold checkGap
        split
        · exact K.faultOccur _ _ hend
        · exact K.checkPool append _ _ _ _ (K.faultOccur _ _ hend)
        · exact K.checkPool append _ _ _ _ hend
  · exact K.induction _ h
  · exact K.induction _ h
  · exact h

include gap in
theorem entryClear {s : State} (stamp : Word) (h : P s) : P (entryClear stamp s) :=
  K.chooseInfeed (gap _ (K.endMeasurement append stamp h))

end KeptOccur
end

/-! ## Properties that faults, belt and infeed do not bear on -/

/-- `P` is kept by every write of the fault unit, the belt drive, the infeed and the line configuration,
and by the writes of the other blocks that the part makes. -/
structure Inert (P : State → Prop) : Prop where
  freeCount : ∀ {s} v, P s → P (s.setFreeCount v)
  resetHold : ∀ {s} v, P s → P (s.setResetHold v)
  position : ∀ {s} v, P s → P (s.setPosition v)
  line : ∀ {s} v, P s → P (s.setLine v)
  belt : ∀ {s} v, P s → P (s.setBelt v)
  infeed : ∀ {s} v, P s → P (s.setInfeed v)
  induction : ∀ {s} v, P s → P (s.setInduction v)
  cursors : ∀ {s} v, P s → P (s.setCursors v)
  faults : ∀ {s} v, P s → P (s.setFaults v)
  routes : ∀ {s} v, (s.RoutesApart → (s.setRoutes v).RoutesApart) → P s → P (s.setRoutes v)
  lanes : ∀ {s} v, (∀ l : LaneId, (s.lane l).Settled → v[l].Settled) → P s → P (s.setLanes v)
  closing : ∀ {s} l target, P s → P (enterClosing l target s)
  events : ∀ {s} v, (s.EntriesEnabled → (s.setEvents v).EntriesEnabled) → P s → P (s.setEvents v)
  counts : ∀ {s} v w, CountsKept s ((s.setTracking v).setLink w) →
    P s → P ((s.setTracking v).setLink w)
  link : ∀ {s} v, LinkShrinks s v → P s → P (s.setLink v)
  report : ∀ {s} r, P s → P (s.setLink { s.link with
    faultReports := placeFaultReport r s.link.faultReports })
  append : ∀ {s} r, s.freeRecords ≠ 0 → P s →
    P (s.setTracking { s.tracking with list := s.tracking.list ++ [r] })
  free : ∀ {s} item, P s → P (s.setTracking { s.tracking with
    fatePending := s.tracking.fatePending.filter fun r => r.item ≠ item })

section
variable {P : State → Prop} (K : Inert P)
include K

namespace Inert

theorem chooseInfeed {s : State} (h : P s) : P (chooseInfeed s) := by
  have hset := K.infeed { s.infeed with state := s.infeedChoice } h
  unfold Machine.chooseInfeed
  dsimp only
  simp only [handEvent_eq]
  split
  · exact K.events _ (fun he => he.handed _ _) hset
  · split
    · exact K.events _ (fun he => he.handed _ _) hset
    · exact hset

theorem writes : KeptWrites P where
  freeCount := K.freeCount
  position v _ := K.position v
  induction := K.induction
  cursors := K.cursors
  routes := K.routes
  lanes := K.lanes
  closing := K.closing
  events := K.events
  counts := K.counts
  link := K.link
  infeed v _ := K.infeed v
  choose v h := K.chooseInfeed (K.infeed v h)
  belt v _ := K.belt v
  moveBelt v _ _ he h := K.chooseInfeed (K.events _ he (K.belt v h))
  startBelt v _ _ _ := K.belt v

/-! ### Occurrences -/

theorem reportDue {s : State} (f : FaultSource) (h : P s) : P (reportDue f s) := K.report _ h

theorem fenceLanes {s : State} (set : BitVec 16) (h : P s) : P (fenceLanes set s) := by
  refine forLanes_invariant P _ (fun l t ht => ?_) _ h
  split
  · exact K.writes.fenceLane l ht
  · exact ht

theorem recoverAction {s : State} (f : FaultSource) (h : P s) : P (recoverAction f s) := by
  unfold Machine.recoverAction
  split
  case h_1 | h_2 => exact K.infeed _ h
  case h_3 | h_4 | h_5 | h_6 => exact K.fenceLanes _ h
  all_goals exact h

theorem stopAction {s : State} (h : P s) : P (stopAction s) :=
  K.writes.purge (forLanes_invariant P _ (fun l _ ht => K.writes.retractRequest l ht) _
    (K.writes.beltBrake h))

theorem takeAction {s : State} (f : FaultSource) (h : P s) : P (takeAction f s) := by
  unfold Machine.takeAction
  split
  · exact h
  · exact K.recoverAction f h
  · exact K.writes.beltHalt h
  · exact K.stopAction h

theorem actAndReport {s : State} (f : FaultSource) (h : P s) : P (actAndReport f s) :=
  K.reportDue f (K.takeAction f (K.faults _ h))

theorem faultOccur {s : State} (f : FaultSource) (lane : Option LaneId) (h : P s) :
    P (faultOccur f lane s) := by
  unfold Machine.faultOccur
  split
  · unfold repeatOccurrence
    dsimp only
    split
    · exact K.faults _ h
    · split
      · exact K.faults _ h
      · split
        · exact K.writes.fenceLane _ (K.faults _ h)
        · exact K.faults _ h
  · refine K.chooseInfeed ?_
    split
    · exact K.faults _ h
    · exact K.actAndReport f (K.faults _ h)

theorem occur : KeptOccur P := { K.writes with faultOccur := K.faultOccur }

theorem kept : Kept P :=
  { K.occur with
    estopEdge := fun stamp h => by
      unfold acceptEdge handEdge estopEdge
      dsimp only
      split
      · exact K.faultOccur _ _ (K.position _ h)
      · exact K.position _ h
    entryClear := K.occur.entryClear K.append (fun _ => K.infeed _) }

/-! ### Rows -/

theorem reselectFirst {s : State} (gone : FaultSource → Bool) (h : P s) :
    P (reselectFirst gone s) := by
  unfold Machine.reselectFirst
  split
  · exact K.faults _ h
  · exact h

theorem clearFaults {s : State} (set : BitVec 16) (h : P s) : P (clearFaults set s) :=
  K.chooseInfeed (relatchSet_invariant K.faultOccur set (K.reselectFirst _ (K.infeed _ (K.faults _ h))))

theorem changeMasks {s : State} (set clear : BitVec 16) (h : P s) : P (changeMasks set clear s) := by
  refine K.chooseInfeed (foldl_invariant P _ (fun t f ht => ?_) _ _
    (K.reselectFirst _ (K.faults _ h)))
  split
  · unfold unmaskSource
    dsimp only
    split
    · exact K.actAndReport f (K.faults _ ht)
    · exact K.faults _ ht
  · exact ht

theorem changeClass {s : State} (src : FaultSource) (cls : ActionClass) (h : P s) :
    P (changeClass src cls s) := by
  refine K.chooseInfeed ?_
  split
  · exact K.reportDue src (K.takeAction src (K.faults _ h))
  · exact K.faults _ h

theorem applyLineConfig {s : State} (c : LineConfig) (h : P s) : P (applyLineConfig c s) := by
  refine K.chooseInfeed (K.kept.rearmJam ?_)
  split
  · exact K.kept.acceptAll (K.line _ h)
  · exact K.line _ h

theorem resetConfiguration {s : State} (h : P s) : P (resetConfiguration s) := by
  refine K.events _ (fun _ => .cleared _ _ rfl) (K.faults _ (K.lanes _ (fun l _ => ?_)
    (K.cursors _ (K.routes _ (fun _ => .of_reset rfl) (K.infeed _ (K.belt _ (K.line _ h)))))))
  have hread : (Vector.ofFn fun l : Fin 16 => LaneUnit.reset (s.accepted (.fullSensor l)))[l] =
      LaneUnit.reset (s.accepted (.fullSensor l)) := by simp
  rw [hread]
  exact LaneUnit.settled_reset _

theorem resetConfig {s : State} (h : P s) : P (resetConfig s) := by
  have hevents : P (resetEvents (clearTracks s)) :=
    K.events _ (fun _ => .cleared _ _ rfl) (K.kept.clearTracks h)
  exact K.chooseInfeed (K.kept.rearmJam (relatchSet_invariant K.faultOccur _ (K.resetConfiguration hevents)))

theorem freeRecord {s : State} (item : Nat) (h : P s) : P (freeRecord item s) :=
  K.chooseInfeed (K.free item h)

/-- An inert property that start-up brings about, and that replies bear on only by their number, is kept
by every row. -/
theorem rows {Q : State → Prop} (K' : Inert Q) (take : ∀ {s}, s.placesHeld < 8 → P s → Q s)
    (reply : ∀ {s} f st b, Q s → P (replyTo f st b s))
    (busy : ∀ {s} r, s.placesHeld < 12 → P s → P (queueReply r s))
    (addFence : ∀ {s} x, s.tracking.fences.length < 4 → Q s →
      P (s.setTracking { s.tracking with fences := s.tracking.fences ++ [x] }))
    (startUp : ∀ {s} cause fast, P s → P (s.startUp cause fast)) : KeptRows P Q where
  between := K.kept
  during := K'.kept
  take := take
  reply := reply
  busy := busy
  addFence := addFence
  resetHold := K.resetHold
  endReset cause fast h := relatchSet_invariant K.faultOccur _ (startUp cause fast h)
  freeRecord := K.freeRecord
  clearFaults := K'.clearFaults
  changeMasks set clear _ _ := K'.changeMasks set clear
  changeClass src cls _ := K'.changeClass src cls
  lineConfig := K'.applyLineConfig
  resetConfig := K'.resetConfig

end Inert
end

end Sys2Proof.Machine
end

section
/-! SUPPORT. The invariants that faults, belt and infeed do not bear on, and the statements about them. -/

namespace Sys2Proof.Machine

/-! ## The queue of commands -/

theorem inert_pending (p : List Instr) : Inert fun t => t.pending = p where
  freeCount _ h := h
  resetHold _ h := h
  position _ h := h
  line _ h := h
  belt _ h := h
  infeed _ h := h
  induction _ h := h
  cursors _ h := h
  faults _ h := h
  routes _ _ h := h
  lanes _ _ h := h
  closing _ _ h := by simpa using h
  events _ _ h := h
  counts _ _ _ h := h
  link _ _ h := h
  report _ h := h
  append _ _ h := h
  free _ h := h

theorem rows_pending (p : List Instr) : KeptRows (fun t => t.pending = p) fun t => t.pending = p :=
  (inert_pending p).rows (inert_pending p) (fun _ h => h) (fun _ _ _ h => h) (fun _ _ h => h)
    (fun _ _ h => h) (fun _ _ h => h)

/-- Settles O2: every row is a next state, and no write of any row is one of the queue of commands. -/
theorem everyCommandCompletes : Obligations.EveryCommandCompletes :=
  fun c s => (rows_pending s.pending).exec c rfl

/-- Settles O1: by the two equations of `step`. -/
theorem stepRunsFrontCommand : Obligations.StepRunsFrontCommand := by
  refine ⟨fun c rest s => rfl, fun s h => ?_⟩
  unfold step
  rw [h]

/-! ## The route table -/

theorem routesApart_congr {s t : State} (h : t.routes = s.routes) (hs : s.RoutesApart) :
    t.RoutesApart := by
  unfold State.RoutesApart
  rw [h]
  exact hs

theorem inert_routesApart : Inert State.RoutesApart where
  freeCount _ h := h
  resetHold _ h := h
  position _ h := h
  line _ h := h
  belt _ h := h
  infeed _ h := h
  induction _ h := h
  cursors _ h := h
  faults _ h := h
  routes _ hv h := hv h
  lanes _ _ h := h
  closing _ _ h := routesApart_congr (by simp) h
  events _ _ h := h
  counts _ _ _ h := h
  link _ _ h := h
  report _ h := h
  append _ _ h := h
  free _ h := h

/-- Settles O31: the rows that write the table write an entry only where no other valid one overlaps it
(R81, R83), clear entries, or count a hit. -/
theorem routeEntriesStayApart : Obligations.RouteEntriesStayApart := fun _ _ hs ht =>
  (inert_routesApart.rows inert_routesApart (fun _ h => h) (fun _ _ _ h => h) (fun _ _ h => h)
    (fun _ _ h => h) (fun _ _ _ => .of_reset rfl)).step (fun _ h => h) hs ht

/-! ## The lanes -/

theorem lanesSettled_congr {s t : State} (h : t.lanes = s.lanes) (hs : s.LanesSettled) :
    t.LanesSettled := fun l => by rw [lane_congr h]; exact hs l

theorem State.LanesSettled.closing {s : State} (h : s.LanesSettled) (l : LaneId) (target : ClosingTarget) :
    (enterClosing l target s).LanesSettled := fun m => by
  rw [enterClosing_lane]
  split
  · exact LaneUnit.closed_settled (h l).1 target
  · exact h m

theorem inert_lanesSettled : Inert State.LanesSettled where
  freeCount _ h := h
  resetHold _ h := h
  position _ h := h
  line _ h := h
  belt _ h := h
  infeed _ h := h
  induction _ h := h
  cursors _ h := h
  faults _ h := h
  routes _ _ h := h
  lanes _ hv h := fun l => hv l (h l)
  closing l target h := h.closing l target
  events _ _ h := h
  counts _ _ _ h := h
  link _ _ h := h
  report _ h := h
  append _ _ h := h
  free _ h := h

theorem startUp_lane (s : State) (cause : ResetCause) (fast : Bool) (l : LaneId) :
    (s.startUp cause fast).lane l = LaneUnit.reset (s.sensor (.fullSensor l)).raw := by
  simp [State.startUp, State.lane]

/-- Settles O42: a closing lane ends settled, and every other write of a lane keeps it settled. -/
theorem laneStatesStaySettled : Obligations.LaneStatesStaySettled := fun _ _ hs ht =>
  (inert_lanesSettled.rows inert_lanesSettled (fun _ h => h) (fun _ _ _ h => h) (fun _ _ h => h)
    (fun _ _ h => h)
    (fun cause fast _ l => by rw [startUp_lane]; exact LaneUnit.settled_reset _)).step
      (fun _ h => h) hs ht

/-! ## The event entries -/

theorem inert_entriesEnabled : Inert State.EntriesEnabled where
  freeCount _ h := h
  resetHold _ h := h
  position _ h := h
  line _ h := h
  belt _ h := h
  infeed _ h := h
  induction _ h := h
  cursors _ h := h
  faults _ h := h
  routes _ _ h := h
  lanes _ _ h := h
  closing l target h := by
    have hlane (m : LaneId) {t : State} (f : LaneUnit → LaneUnit) (ht : t.EntriesEnabled) :
        (modifyLane m f t).EntriesEnabled := ht
    have hexit (m : LaneId) {t : State} (ht : t.EntriesEnabled) : (testExit m t).EntriesEnabled := by
      unfold testExit
      dsimp only
      split
      · rw [handEvent_eq]; exact State.EntriesEnabled.handed (s := t.setLane m _) ht _ _
      · exact ht
    exact hexit l (hlane l _ (entriesEnabled_congr (by simp) (by simp) h))
  events _ hv h := hv h
  counts _ _ _ h := h
  link _ _ h := h
  report _ h := h
  append _ _ h := h
  free _ h := h

/-- Settles O52: an occurrence makes entries of enabled pairs only, and the rows that write the event unit
take entries out or clear them with their marks. -/
theorem eventEntriesStayEnabled : Obligations.EventEntriesStayEnabled := fun _ _ hs ht =>
  (inert_entriesEnabled.rows inert_entriesEnabled (fun _ h => h) (fun _ _ _ h => h)
    (fun _ _ h => h) (fun _ _ h => h)
    (fun cause fast _ => .cleared (State.startUp _ cause fast) EventUnit.reset rfl)).step
      (fun _ h => h) hs ht

/-! ## The queues -/

/-- The queues are within their sizes, with `n` reply places at most (R43, R136, R176, R179, R180). -/
structure QueuesWithin (n : Nat) (s : State) : Prop where
  commands : s.link.commands.length ≤ 4
  fences : s.tracking.fences.length ≤ 4
  places : s.placesHeld ≤ n
  pool : s.PoolBounded
  reports : s.ReportsApart

theorem placeFaultReport_sources (r : FaultReport) (q : List FaultReport) :
    (placeFaultReport r q).map (·.source) =
      if r.source ∈ q.map (·.source) then q.map (·.source)
      else q.map (·.source) ++ [r.source] := by
  induction q with
  | nil => rfl
  | cons a q ih =>
    unfold placeFaultReport
    by_cases h : a.source = r.source
    · simp [h]
    · have h' : r.source ≠ a.source := fun e => h e.symm
      simp only [h, if_false, List.map_cons, ih, List.mem_cons, h', false_or]
      split <;> rfl

theorem ReportsApart.place {q : List FaultReport} (h : (q.map (·.source)).Nodup) (r : FaultReport) :
    ((placeFaultReport r q).map (·.source)).Nodup := by
  rw [placeFaultReport_sources]
  split
  · exact h
  · exact List.nodup_append.2 ⟨h, by simp, by simpa using fun a ha e => ‹¬ _› (by simp_all)⟩

theorem CountsKept.queuesWithin {n : Nat} {s t : State} (hc : CountsKept s t)
    (h : QueuesWithin n s) : QueuesWithin n t where
  commands := by rw [hc.commands]; exact h.commands
  fences := hc.2.2.1.trans h.fences
  places := by rw [hc.2.1]; exact h.places
  pool := by unfold State.PoolBounded; rw [hc.2.2.2]; exact h.pool
  reports := by unfold State.ReportsApart; rw [hc.faultReports]; exact h.reports

theorem inert_queuesWithin (n : Nat) : Inert (QueuesWithin n) where
  freeCount _ h := ⟨h.1, h.2, h.3, h.4, h.5⟩
  resetHold _ h := ⟨h.1, h.2, h.3, h.4, h.5⟩
  position _ h := ⟨h.1, h.2, h.3, h.4, h.5⟩
  line _ h := ⟨h.1, h.2, h.3, h.4, h.5⟩
  belt _ h := ⟨h.1, h.2, h.3, h.4, h.5⟩
  infeed _ h := ⟨h.1, h.2, h.3, h.4, h.5⟩
  induction _ h := ⟨h.1, h.2, h.3, h.4, h.5⟩
  cursors _ h := ⟨h.1, h.2, h.3, h.4, h.5⟩
  faults _ h := ⟨h.1, h.2, h.3, h.4, h.5⟩
  routes _ _ h := ⟨h.1, h.2, h.3, h.4, h.5⟩
  lanes _ _ h := ⟨h.1, h.2, h.3, h.4, h.5⟩
  closing l target h := (enterClosing_counts l target _).queuesWithin h
  events _ _ h := ⟨h.1, h.2, h.3, h.4, h.5⟩
  counts _ _ hc h := hc.queuesWithin h
  link _ hv h :=
    ⟨hv.1 h.commands, h.fences, (Nat.add_le_add_right hv.2.1 _).trans h.places, h.pool,
      h.reports.sublist (hv.2.2.map _)⟩
  report r h := ⟨h.1, h.2, h.3, h.4, ReportsApart.place h.reports r⟩
  append r hf h := by
    refine ⟨h.1, h.2, h.3, ?_, h.5⟩
    have hfree : 64 - (_ + _) ≠ 0 := hf
    simp only [State.PoolBounded, setTracking_tracking, List.length_append, List.length_singleton]
    omega
  free item h := by
    refine ⟨h.1, h.2, h.3, ?_, h.5⟩
    exact (Nat.add_le_add_left (List.length_filter_le _ _) _).trans h.pool

theorem QueuesWithin.reply {n : Nat} {s : State} (h : QueuesWithin n s) (r : Reply) {m : Nat}
    (hm : s.placesHeld + 1 ≤ m) : QueuesWithin m (queueReply r s) where
  commands := h.commands
  fences := h.fences
  places := by
    simp only [queueReply, State.placesHeld, setLink_link, setLink_tracking, List.length_append,
      List.length_singleton] at hm ⊢
    omega
  pool := h.pool
  reports := h.reports

theorem QueuesWithin.addFence {n : Nat} {s : State} (h : QueuesWithin n s) (x : Fence)
    (hx : s.tracking.fences.length < 4) {m : Nat} (hm : s.placesHeld + 1 ≤ m) :
    QueuesWithin m (s.setTracking { s.tracking with fences := s.tracking.fences ++ [x] }) where
  commands := h.commands
  fences := by simpa using hx
  places := by
    simp only [State.placesHeld, setTracking_link, setTracking_tracking, List.length_append,
      List.length_singleton] at hm ⊢
    omega
  pool := h.pool
  reports := h.reports

theorem QueuesWithin.startUp (n : Nat) (s : State) (cause : ResetCause) (fast : Bool) :
    QueuesWithin n (s.startUp cause fast) := by
  constructor <;> simp [State.startUp, Link.reset, Tracking.reset, State.placesHeld,
    State.PoolBounded, State.ReportsApart]

/-- Between commands at most 12 reply places are held; while one is applied at most 7, since the
interpreter takes a frame with fewer than 8 held (R177, R179). -/
theorem rows_queuesWithin : KeptRows (QueuesWithin 12) (QueuesWithin 7) :=
  (inert_queuesWithin 12).rows (inert_queuesWithin 7)
    (fun hp h => ⟨h.1, h.2, Nat.le_of_lt_succ hp, h.4, h.5⟩)
    (fun _ _ _ h => h.reply _ (by have := h.places; omega))
    (fun r hp h => h.reply r hp)
    (fun x hx h => h.addFence x hx (by have := h.places; omega))
    (fun cause fast _ => .startUp _ _ cause fast)

/-- Settles O58: the writes of the rows keep the queues within their sizes. -/
theorem queuesStayBounded : Obligations.QueuesStayBounded := by
  intro s t hq hp hr ht
  obtain ⟨hcommands, hfences, hplaces⟩ := hq
  have hs : QueuesWithin 12 s := ⟨hcommands, hfences, hplaces, hp, hr⟩
  have h := rows_queuesWithin.step (fun _ h => ⟨h.1, h.2, h.3, h.4, h.5⟩) hs ht
  exact ⟨⟨h.commands, h.fences, h.places⟩, h.pool, h.reports⟩

end Sys2Proof.Machine
end

section
/-! SUPPORT. What occurrences and the fault commands leave of the fault unit (R145 to R148, R155 to R157),
source by source, and what they leave of the belt (R24). -/

namespace Sys2Proof.Machine

/-! ## Sources and sets -/

theorem unmaskedLatched_iff (s : State) :
    s.unmaskedLatched = true ↔ ∃ f, (s.source f).acting = true := by
  simp [State.unmaskedLatched, FaultSource.mem_all]

theorem stoppingFault_iff (s : State) : s.stoppingFault = true ↔
    ∃ f, (s.source f).acting = true ∧ ((s.source f).cls = .halt ∨ (s.source f).cls = .stop) := by
  simp [State.stoppingFault, FaultSource.mem_all]

theorem lowestActing_some {s : State} {f : FaultSource} (h : s.lowestActing = some f) :
    (s.source f).acting = true :=
  List.find?_some (p := fun g => (s.source g).acting) h

theorem lowestActing_none {s : State} (h : s.lowestActing = none) (f : FaultSource) :
    (s.source f).acting = false := by
  have := List.find?_eq_none.1 h f f.mem_all
  simpa using this

theorem mapSources_source (set : BitVec 16) (g : SourceState → SourceState) (s : State)
    (f : FaultSource) : (mapSources set g s).source f =
      if inSourceSet set f then g (s.source f) else s.source f := by
  simp [mapSources, State.source, inSourceSet]
  rfl

theorem mapSources_first (set : BitVec 16) (g : SourceState → SourceState) (s : State) :
    (mapSources set g s).faults.first = s.faults.first := rfl

theorem reselectFirst_source (gone : FaultSource → Bool) (s : State) (f : FaultSource) :
    (reselectFirst gone s).source f = s.source f := by
  unfold reselectFirst
  split <;> rfl

theorem reselectFirst_first (gone : FaultSource → Bool) (s : State) :
    (reselectFirst gone s).faults.first =
      if s.faults.first.any gone then s.lowestActing else s.faults.first := by
  unfold reselectFirst
  split <;> rfl

/-! ## Occurrences -/

/-- A source as an occurrence that latches it leaves it (R145). -/
def SourceState.latchedBy (x : SourceState) (lane : Option LaneId) : SourceState :=
  { x.counted with
    latched := true
    laneSet := (lane.map laneBit).getD x.laneSet
    latchLane := lane }

/-- A source as an occurrence that finds it latched leaves it (R146). -/
def SourceState.repeated (x : SourceState) (sc : Bool) : Option LaneId → SourceState
  | none => x.counted
  | some l => if sc = false ∨ x.laneSet.getLsbD l.val = true then x.counted
      else { x.counted with laneSet := x.laneSet ||| laneBit l }

/-- A source as an occurrence leaves it (R145 to R147). -/
def SourceState.occurred (x : SourceState) (sc : Bool) (lane : Option LaneId) : SourceState :=
  if x.latched then x.repeated sc lane else x.latchedBy lane

theorem SourceState.repeated_frame (x : SourceState) (sc : Bool) (lane : Option LaneId) :
    (x.repeated sc lane).latched = x.latched ∧ (x.repeated sc lane).masked = x.masked ∧
      (x.repeated sc lane).cls = x.cls ∧
      (x.repeated sc lane).count = min 255 (x.count + 1) := by
  unfold SourceState.repeated
  split
  · exact ⟨rfl, rfl, rfl, rfl⟩
  · split <;> exact ⟨rfl, rfl, rfl, rfl⟩

/-- An occurrence latches its source, counts, and leaves its mask and its class. -/
theorem SourceState.occurred_frame (x : SourceState) (sc : Bool) (lane : Option LaneId) :
    (x.occurred sc lane).latched = true ∧ (x.occurred sc lane).masked = x.masked ∧
      (x.occurred sc lane).cls = x.cls ∧
      (x.occurred sc lane).count = min 255 (x.count + 1) := by
  unfold SourceState.occurred
  split
  · obtain ⟨h1, h2⟩ := x.repeated_frame sc lane
    exact ⟨h1.trans ‹_›, h2⟩
  · exact ⟨rfl, rfl, rfl, rfl⟩

theorem actAndReport_faults (f : FaultSource) (s : State) :
    (actAndReport f s).faults = { s.faults with first := some (s.faults.first.getD f) } := by
  obtain ⟨h1, h2⟩ := actAndReport_spec f s
  rw [h2]; exact h1

theorem actAndReport_source (f g : FaultSource) (s : State) :
    (actAndReport f s).source g = s.source g := by
  unfold State.source
  rw [actAndReport_faults]

/-- An occurrence that repeats writes its source, and the lane it fences (R146). -/
theorem repeatOccurrence_faults (f : FaultSource) (lane : Option LaneId) (s : State) :
    (repeatOccurrence f lane s).faults =
      (s.setSource f ((s.source f).repeated f.laneScoped lane)).faults := by
  unfold repeatOccurrence
  cases lane with
  | none => rfl
  | some l =>
    dsimp only [SourceState.repeated]
    split
    · rfl
    · split
      · simp only [fenceLane_frame]
      · rfl

theorem latchOccurrence_faults (f : FaultSource) (lane : Option LaneId) (s : State) :
    (latchOccurrence f lane s).faults =
      { (s.setSource f ((s.source f).latchedBy lane)).faults with
        first := if (s.source f).masked then s.faults.first else some (s.faults.first.getD f) } := by
  unfold latchOccurrence
  dsimp only
  split
  · simp [SourceState.latchedBy, State.setSource]
  · simp [actAndReport_faults, SourceState.latchedBy, State.setSource]

theorem faultOccur_of_latched {f : FaultSource} {s : State} (h : (s.source f).latched = true)
    (lane : Option LaneId) : faultOccur f lane s = repeatOccurrence f lane s := if_pos h

theorem faultOccur_of_masked {f : FaultSource} {s : State} (hl : (s.source f).latched = false)
    (hm : (s.source f).masked = true) (lane : Option LaneId) :
    faultOccur f lane s =
      chooseInfeed (s.setSource f ((s.source f).latchedBy lane)) := by
  simp only [faultOccur, latchOccurrence, hl, hm, Bool.false_eq_true, if_false, if_true]
  rfl

theorem faultOccur_of_acts {f : FaultSource} {s : State} (hl : (s.source f).latched = false)
    (hm : (s.source f).masked = false) (lane : Option LaneId) :
    faultOccur f lane s =
      chooseInfeed (actAndReport f (s.setSource f ((s.source f).latchedBy lane))) := by
  simp only [faultOccur, latchOccurrence, hl, hm, Bool.false_eq_true, if_false]
  rfl

/-- An occurrence of a source, as it leaves the fault unit (R145 to R148). -/
theorem faultOccur_faults (f : FaultSource) (lane : Option LaneId) (s : State) :
    (faultOccur f lane s).faults =
      { (s.setSource f ((s.source f).occurred f.laneScoped lane)).faults with
        first := if (s.source f).latched || (s.source f).masked then s.faults.first
          else some (s.faults.first.getD f) } := by
  unfold faultOccur SourceState.occurred
  cases h : (s.source f).latched
  · simp [latchOccurrence_faults]
  · simp [repeatOccurrence_faults, State.setSource]

theorem faultOccur_source (f : FaultSource) (lane : Option LaneId) (s : State) (g : FaultSource) :
    (faultOccur f lane s).source g =
      if g = f then (s.source f).occurred f.laneScoped lane else s.source g := by
  rw [← setSource_source]
  simp only [State.source, faultOccur_faults]

/-- An occurrence leaves every source's mask and class. -/
theorem faultOccur_masked (f : FaultSource) (lane : Option LaneId) (s : State) (g : FaultSource) :
    ((faultOccur f lane s).source g).masked = (s.source g).masked ∧
      ((faultOccur f lane s).source g).cls = (s.source g).cls := by
  rw [faultOccur_source]
  split
  · rename_i h
    obtain ⟨-, hm, hc, -⟩ := SourceState.occurred_frame (s.source f) f.laneScoped lane
    rw [h]; exact ⟨hm, hc⟩
  · exact ⟨rfl, rfl⟩

/-- An occurrence latches its source and unlatches none. -/
theorem faultOccur_latched (f : FaultSource) (lane : Option LaneId) (s : State) (g : FaultSource) :
    ((faultOccur f lane s).source g).latched = (decide (g = f) || (s.source g).latched) := by
  rw [faultOccur_source]
  by_cases h : g = f
  · simp [h, (SourceState.occurred_frame (s.source f) f.laneScoped lane).1]
  · simp [h]

/-! ## The belt -/

/-- A class action leaves the belt on its way to rest where it is so, and where the class is HALT or
STOP (R24). -/
theorem takeAction_stopping (f : FaultSource) (s : State)
    (h : s.belt.state.stopping ∨ (s.source f).cls = .halt ∨ (s.source f).cls = .stop) :
    (takeAction f s).belt.state.stopping := by
  unfold takeAction
  split
  · rename_i hc; simpa [hc] using h
  · rename_i hc
    have hb : (recoverAction f s).belt = s.belt := by unfold recoverAction; split <;> simp
    rw [hb]
    simpa [hc] using h
  · exact beltHalt_stopping s
  · rw [stopAction_belt, beltBrake_state]
    exact .inr (.inl rfl)

/-- Only HALT and STOP act on the belt (R149 to R152). -/
theorem takeAction_belt (f : FaultSource) (s : State)
    (h : (s.source f).cls ≠ .halt ∧ (s.source f).cls ≠ .stop) :
    (takeAction f s).belt = s.belt := by
  unfold takeAction
  split
  · rfl
  · unfold recoverAction; split <;> simp
  · exact absurd ‹_› h.1
  · exact absurd ‹_› h.2

theorem actAndReport_belt (f : FaultSource) (s : State) :
    (actAndReport f s).belt = (takeAction f (captureFirst f s)).belt := by
  simp [actAndReport]

theorem captureFirst_source (f g : FaultSource) (s : State) :
    (captureFirst f s).source g = s.source g := rfl

end Sys2Proof.Machine
end

section
/-! SUPPORT. A property of the fault unit and of the emergency-stop input alone: which of its writes each
row makes. -/

namespace Sys2Proof.Machine

theorem accepted_congr {s t : State} (h : t.position = s.position) (i : SensorInput) :
    t.accepted i = s.accepted i := by
  unfold State.accepted State.sensor
  rw [h]

section
variable {P : State → Prop}
  (congr : ∀ {s t : State}, t.faults = s.faults →
    t.accepted .emergencyStop = s.accepted .emergencyStop → P s → P t)
include congr

theorem writes_of_faults : KeptWrites P where
  freeCount _ := congr rfl rfl
  position _ hv := congr rfl hv
  induction _ := congr rfl rfl
  cursors _ := congr rfl rfl
  routes _ _ := congr rfl rfl
  lanes _ _ := congr rfl rfl
  closing _ _ := congr (by simp) (accepted_congr (by simp) _)
  events _ _ := congr rfl rfl
  counts _ _ _ := congr rfl rfl
  link _ _ := congr rfl rfl
  infeed _ _ := congr rfl rfl
  choose _ := congr (by simp) (accepted_congr (by simp) _)
  belt _ _ := congr rfl rfl
  moveBelt _ _ _ _ := congr (by simp) (accepted_congr (by simp) _)
  startBelt _ _ _ _ := congr rfl rfl

variable (occur : ∀ {s : State} (f : FaultSource) (lane : Option LaneId),
    P s → P (faultOccur f lane s))
  (estop : ∀ {s : State} (v : SensorState), P s →
    P (faultOccur .estop none (s.setSensor .emergencyStop v)))
  (release : ∀ {s : State} (v : SensorState), v.accepted = false → P s →
    P (s.setSensor .emergencyStop v))
include occur estop release

theorem kept_of_faults : Kept P :=
  { writes_of_faults congr with
    faultOccur := occur
    estopEdge := fun {s} stamp h => by
      unfold acceptEdge handEdge estopEdge
      dsimp only
      split
      · exact estop _ h
      · exact release _ (by simpa using ‹¬ (!(s.sensor .emergencyStop).accepted) = true›) h
    entryClear := KeptOccur.entryClear { writes_of_faults congr with faultOccur := occur }
      (fun _ _ => congr rfl rfl) (fun _ => congr rfl rfl) }

/-- What a property of the fault unit must be kept by, for every row to keep it. -/
theorem rows_of_faults
    (reset : ∀ {s : State}, s.faults = FaultUnit.reset → P (relatchSet 0x7FFF s))
    (clear : ∀ {s : State} (set : BitVec 16), P s → P (relatchSet set (clearSources set s)))
    (masks : ∀ {s : State} (set clear : BitVec 16), inSourceSet set .estop = false →
      inSourceSet clear .estop = false → P s → P (unmaskSources clear (maskSources set s)))
    (class_ : ∀ {s : State} (src : FaultSource) (cls : ActionClass), src ≠ .estop → P s →
      P (s.setSource src { s.source src with cls := cls })) : KeptRows P P :=
  have K := kept_of_faults congr occur estop release
  { between := K
    during := K
    take := fun _ h => h
    reply := fun _ _ _ => congr rfl rfl
    busy := fun _ _ => congr rfl rfl
    addFence := fun _ _ => congr rfl rfl
    resetHold := fun _ => congr rfl rfl
    endReset := fun _ _ _ => reset rfl
    freeRecord := fun _ h => K.chooseInfeed (congr (by rfl) (by rfl) h)
    clearFaults := fun set h => K.chooseInfeed (clear set h)
    changeMasks := fun set clr hs hc h => K.chooseInfeed (masks set clr hs hc h)
    changeClass := fun src cls hne h => by
      refine K.chooseInfeed ?_
      split
      · exact congr (by simp [reportDue]) (accepted_congr (by simp [reportDue]) _)
          (class_ src cls hne h)
      · exact class_ src cls hne h
    lineConfig := fun _ h => by
      refine K.chooseInfeed (K.rearmJam ?_)
      split
      · exact K.acceptAll (congr (by rfl) (by rfl) h)
      · exact congr (by rfl) (by rfl) h
    resetConfig := fun _ => K.chooseInfeed (K.rearmJam (reset rfl)) }

end
end Sys2Proof.Machine
end

section
/-! SUPPORT. The first fault (R148): what every row keeps of it, and the statement about it. -/

namespace Sys2Proof.Machine

/-- The first fault names an acting source, and is absent only where no source acts (R148). -/
theorem firstFaultNamed_iff (s : State) : s.FirstFaultNamed ↔
    (∀ f, s.faults.first = some f → (s.source f).acting = true) ∧
      (s.faults.first = none → ∀ f, (s.source f).acting = false) := by
  have hu := unmaskedLatched_iff s
  unfold State.FirstFaultNamed
  cases hf : s.faults.first with
  | none =>
    cases ha : s.unmaskedLatched
    · simp only [ha, Bool.false_eq_true, false_iff, not_exists] at hu
      simpa using hu
    · simp only [ha, true_iff] at hu
      simpa using hu
  | some f =>
    cases ha : s.unmaskedLatched
    · simp only [ha, Bool.false_eq_true, false_iff, not_exists] at hu
      simpa using hu f
    · simp

theorem firstFaultNamed_congr {s t : State} (h : t.faults = s.faults) (hs : s.FirstFaultNamed) :
    t.FirstFaultNamed := by
  rw [firstFaultNamed_iff] at hs ⊢
  simp only [source_congr h]
  rw [h]
  exact hs

/-- Where no source's acting changes, the first fault stands. -/
theorem State.FirstFaultNamed.of_acting {s t : State} (hs : s.FirstFaultNamed)
    (hfirst : t.faults.first = s.faults.first)
    (h : ∀ f, (t.source f).acting = (s.source f).acting) : t.FirstFaultNamed := by
  rw [firstFaultNamed_iff] at hs ⊢
  simp only [hfirst, h]
  exact hs

/-- A source that comes to act is the first fault where there is none. -/
theorem State.FirstFaultNamed.captured {s t : State} (hs : s.FirstFaultNamed) (f : FaultSource)
    (hfirst : t.faults.first = some (s.faults.first.getD f)) (hf : (t.source f).acting = true)
    (h : ∀ g, g ≠ f → (t.source g).acting = (s.source g).acting) : t.FirstFaultNamed := by
  rw [firstFaultNamed_iff] at hs ⊢
  refine ⟨fun g hg => ?_, fun hn => by simp [hfirst] at hn⟩
  by_cases hgf : g = f
  · exact hgf ▸ hf
  · rw [h g hgf]
    refine hs.1 g ?_
    cases hsf : s.faults.first with
    | none => simp [hfirst, hsf] at hg; exact absurd hg.symm hgf
    | some x => simpa [hfirst, hsf] using hg

/-- Reselecting after some sources have ceased to act names the lowest that acts, if it must (R148). -/
theorem State.FirstFaultNamed.reselect {s t : State} (hs : s.FirstFaultNamed)
    (gone : FaultSource → Bool) (hfirst : t.faults.first = s.faults.first)
    (hgone : ∀ f, gone f = true → (t.source f).acting = false)
    (h : ∀ f, gone f = false → (t.source f).acting = (s.source f).acting) :
    (reselectFirst gone t).FirstFaultNamed := by
  rw [firstFaultNamed_iff] at hs ⊢
  simp only [reselectFirst_source, reselectFirst_first, hfirst]
  obtain ⟨hsome, hnone⟩ := hs
  cases hf : s.faults.first with
  | none =>
    refine ⟨by simp, fun _ f => ?_⟩
    cases hg : gone f
    · rw [h f hg]; exact hnone hf f
    · exact hgone f hg
  | some x =>
    cases hx : gone x
    · simp only [Option.any_some, hx]
      refine ⟨fun f he => ?_, by simp⟩
      cases he
      rw [h x hx]
      exact hsome x hf
    · simp only [Option.any_some, hx, if_true]
      exact ⟨fun f => lowestActing_some, lowestActing_none⟩

theorem State.FirstFaultNamed.faultOccur {s : State} (hs : s.FirstFaultNamed) (f : FaultSource)
    (lane : Option LaneId) : (faultOccur f lane s).FirstFaultNamed := by
  have hfaults := faultOccur_faults f lane s
  have hsource := faultOccur_source f lane s
  obtain ⟨hl, hm, -, -⟩ := SourceState.occurred_frame (s.source f) f.laneScoped lane
  by_cases hacts : (s.source f).latched = true ∨ (s.source f).masked = true
  · refine hs.of_acting ?_ fun g => ?_
    · rw [hfaults]
      rcases hacts with h | h <;> simp [h]
    · rw [hsource]
      split
      · subst_vars
        unfold SourceState.acting
        rw [hl, hm]
        rcases hacts with h | h <;> simp [h]
      · rfl
  · rw [not_or, Bool.not_eq_true, Bool.not_eq_true] at hacts
    refine hs.captured f ?_ ?_ fun g hg => ?_
    · rw [hfaults]; simp [hacts]
    · rw [hsource, if_pos rfl]
      simp [SourceState.acting, hl, hm, hacts]
    · rw [hsource, if_neg hg]

/-! ### The rows of the fault unit -/

theorem FaultUnit.reset_acting {s : State} (h : s.faults = FaultUnit.reset) (f : FaultSource) :
    (s.source f).acting = false := by
  have hread : s.source f = FaultUnit.reset.sources[f.idx] := by unfold State.source; rw [h]
  rw [hread]
  cases f <;> rfl

theorem firstFaultNamed_of_reset {s : State} (h : s.faults = FaultUnit.reset) :
    s.FirstFaultNamed := by
  rw [firstFaultNamed_iff]
  exact ⟨fun f hf => by simp [h, FaultUnit.reset] at hf, fun _ f => FaultUnit.reset_acting h f⟩

theorem State.FirstFaultNamed.clearSources {s : State} (hs : s.FirstFaultNamed) (set : BitVec 16) :
    (clearSources set s).FirstFaultNamed := by
  have hread (f : FaultSource) := mapSources_source set SourceState.cleared s f
  refine hs.reselect _ rfl (fun f hf => ?_) (fun f hf => ?_)
  · show ((mapSources set SourceState.cleared s).source f).acting = false
    rw [hread, if_pos hf]
    rfl
  · show ((mapSources set SourceState.cleared s).source f).acting = (s.source f).acting
    rw [hread, if_neg (by simp [hf])]

theorem State.FirstFaultNamed.maskSources {s : State} (hs : s.FirstFaultNamed) (set : BitVec 16) :
    (maskSources set s).FirstFaultNamed := by
  have hread (f : FaultSource) := mapSources_source set (fun x => { x with masked := true }) s f
  refine hs.reselect _ rfl (fun f hf => ?_) (fun f hf => ?_)
  · rw [hread, if_pos hf]
    simp [SourceState.acting]
  · rw [hread, if_neg (by simp [hf])]

/-- Unmasking a source that is not both masked and latched changes nothing of what acts. -/
theorem unmask_acting {x : SourceState} (h : (x.masked && x.latched) = false) :
    { x with masked := false : SourceState }.acting = x.acting := by
  unfold SourceState.acting
  cases hm : x.masked <;> simp_all

theorem State.FirstFaultNamed.unmaskSource {s : State} (hs : s.FirstFaultNamed) (f : FaultSource) :
    (unmaskSource f s).FirstFaultNamed := by
  have hread (g : FaultSource) := setSource_source s f g { s.source f with masked := false }
  unfold Machine.unmaskSource
  dsimp only
  split
  · rename_i h
    obtain ⟨-, hl⟩ := (Bool.and_eq_true _ _).mp h
    refine hs.captured f (by rw [actAndReport_faults]; rfl) ?_ fun g hg => ?_
    · rw [actAndReport_source, hread, if_pos rfl]
      simp [SourceState.acting, hl]
    · rw [actAndReport_source, hread, if_neg hg]
  · rename_i h
    refine hs.of_acting rfl fun g => ?_
    rw [hread]
    split
    · rename_i hg
      rw [hg]
      exact unmask_acting (by simpa using h)
    · rfl

theorem State.FirstFaultNamed.unmaskSources {s : State} (hs : s.FirstFaultNamed)
    (set : BitVec 16) : (unmaskSources set s).FirstFaultNamed := by
  refine foldl_invariant _ _ (fun t f ht => ?_) _ _ hs
  split
  · exact ht.unmaskSource f
  · exact ht

theorem State.FirstFaultNamed.changeSource {s : State} (hs : s.FirstFaultNamed) (src : FaultSource)
    (cls : ActionClass) : (s.setSource src { s.source src with cls := cls }).FirstFaultNamed := by
  refine hs.of_acting rfl fun f => ?_
  rw [setSource_source]
  split
  · subst_vars; rfl
  · rfl

theorem State.FirstFaultNamed.relatchSet {s : State} (hs : s.FirstFaultNamed) (set : BitVec 16) :
    (relatchSet set s).FirstFaultNamed :=
  relatchSet_invariant (fun f lane ht => ht.faultOccur f lane) set hs

theorem rows_firstFaultNamed : KeptRows State.FirstFaultNamed State.FirstFaultNamed :=
  rows_of_faults (fun hf _ => firstFaultNamed_congr hf) (fun f lane h => h.faultOccur f lane)
    (fun _ h => State.FirstFaultNamed.faultOccur (firstFaultNamed_congr (s := _) (by rfl) h) _ _)
    (fun _ _ => firstFaultNamed_congr rfl)
    (fun hr => (firstFaultNamed_of_reset hr).relatchSet _)
    (fun set h => (h.clearSources set).relatchSet set)
    (fun set clear _ _ h => (h.maskSources set).unmaskSources clear)
    (fun src cls _ h => h.changeSource src cls)

/-- Settles O49: an occurrence and an unmasking name the source that comes to act where none is named,
and clearing and masking name the lowest that still acts (R148). -/
theorem firstFaultStaysNamed : Obligations.FirstFaultStaysNamed := fun _ _ hs ht =>
  rows_firstFaultNamed.step (fun _ h => h) hs ht

end Sys2Proof.Machine
end

section
/-! SUPPORT. ESTOP and the belt: the three properties of the emergency stop (R24, R143, R144), each kept by
every row, and the statement about them. -/

namespace Sys2Proof.Machine

/-! ## ESTOP's own source -/

theorem unmaskSource_source (f g : FaultSource) (s : State) :
    (unmaskSource f s).source g =
      if g = f then { s.source f with masked := false } else s.source g := by
  rw [← setSource_source]
  unfold unmaskSource
  dsimp only
  split
  · rw [actAndReport_source]
  · rfl

theorem maskSources_source (set : BitVec 16) (s : State) (f : FaultSource) :
    (maskSources set s).source f =
      if inSourceSet set f then { s.source f with masked := true } else s.source f := by
  unfold maskSources
  rw [reselectFirst_source, mapSources_source]

theorem clearSources_source (set : BitVec 16) (s : State) (f : FaultSource) :
    (clearSources set s).source f =
      if inSourceSet set f then (s.source f).cleared else s.source f := by
  rw [← mapSources_source]
  exact reselectFirst_source _ _ f

/-- The mask lists leave a source that neither names (R156). -/
theorem masks_source_of_not_named {set clear : BitVec 16} {f : FaultSource}
    (hs : inSourceSet set f = false) (hc : inSourceSet clear f = false) (s : State) :
    (unmaskSources clear (maskSources set s)).source f = s.source f := by
  refine foldl_invariant (fun t : State => t.source f = s.source f) _ (fun t g ht => ?_) _ _ ?_
  · split
    · rename_i hg
      have hne : f ≠ g := by rintro rfl; simp [hc] at hg
      rw [unmaskSource_source, if_neg hne, ht]
    · exact ht
  · rw [maskSources_source, if_neg (by simp [hs])]

theorem masks_position (set clear : BitVec 16) (s : State) :
    (unmaskSources clear (maskSources set s)).position = s.position := by
  refine foldl_invariant (fun t : State => t.position = s.position) _ (fun t g ht => ?_) _ _ ?_
  · split
    · unfold unmaskSource
      dsimp only
      split
      · rw [← ht]; simp [State.setSource]
      · exact ht
    · exact ht
  · simp [maskSources]

/-! ## ESTOP's class and mask -/

theorem rows_estopFixed : KeptRows State.EstopFixed State.EstopFixed := by
  have hcongr {s t : State} (h : t.source .estop = s.source .estop) (hs : s.EstopFixed) :
      t.EstopFixed := by unfold State.EstopFixed; rw [h]; exact hs
  have hoccur {s : State} (f : FaultSource) (lane : Option LaneId) (hs : s.EstopFixed) :
      (faultOccur f lane s).EstopFixed := by
    obtain ⟨hm, hc⟩ := faultOccur_masked f lane s .estop
    exact ⟨hm.trans hs.1, hc.trans hs.2⟩
  refine rows_of_faults (fun hf _ => hcongr (source_congr hf _)) hoccur
    (fun v hs => hoccur _ _ (hcongr (by rfl) hs)) (fun v _ hs => hcongr (by rfl) hs)
    (fun hr => relatchSet_invariant hoccur _ ?_)
    (fun set hs => relatchSet_invariant hoccur _ ?_)
    (fun set clear hset hclear hs => hcongr (masks_source_of_not_named hset hclear _) hs)
    (fun src cls hne hs => hcongr ?_ hs)
  · unfold State.EstopFixed State.source
    rw [hr]
    exact ⟨rfl, rfl⟩
  · unfold State.EstopFixed
    rw [clearSources_source]
    split <;> exact hs
  · rw [setSource_source, if_neg (Ne.symm hne)]

/-! ## ESTOP's latch -/

/-- A fold establishes what the step at one of its members establishes and the others keep. -/
theorem foldl_establish {α β : Type} {I E : β → Prop} {f : β → α → β} {a : α}
    (hI : ∀ b x, I b → I (f b x)) (hE : ∀ b x, E b → E (f b x)) (ha : ∀ b, I b → E (f b a))
    {l : List α} (hm : a ∈ l) {b : β} (hb : I b) : E (l.foldl f b) := by
  obtain ⟨l₁, l₂, rfl⟩ := List.append_of_mem hm
  rw [List.foldl_append, List.foldl_cons]
  exact foldl_invariant E f hE l₂ _ (ha _ (foldl_invariant I f hI l₁ _ hb))

/-- The re-latch of a set that names ESTOP latches it where its input is asserted (R142, R155). -/
theorem relatchSet_estop {set : BitVec 16} (hset : inSourceSet set .estop = true) {s : State}
    (h : s.accepted .emergencyStop = true) : ((relatchSet set s).source .estop).latched = true := by
  refine foldl_establish (E := fun t : State => (t.source .estop).latched = true) (I := fun t : State => t.accepted .emergencyStop = true) (fun t f ht => ?_)
    (fun t f ht => ?_) (fun t ht => ?_) (FaultSource.mem_all .estop) h
  · split
    · exact (accepted_congr (s := t) (by simp) _).trans ht
    · exact ht
  · split
    · unfold relatch
      split
      · split
        · refine forLanes_invariant (fun t : State => (t.source .estop).latched = true) _
            (fun l u hu => ?_) _ ht
          split
          · rw [faultOccur_latched, hu, Bool.or_true]
          · exact hu
        · rw [faultOccur_latched, ht, Bool.or_true]
      · exact ht
    · exact ht
  · have hcond : t.conditionHolds .estop = true := ht
    have hrelatch : relatch .estop t = faultOccur .estop none t := if_pos hcond
    rw [if_pos (by rw [hset]; rfl), hrelatch, faultOccur_latched]
    rfl

theorem relatchSet_estopHeld {set : BitVec 16} {s : State}
    (h : inSourceSet set .estop = false → s.EstopHeld) : (relatchSet set s).EstopHeld := by
  intro ha
  rw [accepted_congr (s := s) (by simp)] at ha
  cases hset : inSourceSet set .estop with
  | true => exact relatchSet_estop hset ha
  | false =>
    exact relatchSet_invariant (P := fun t => (t.source .estop).latched = true)
      (fun f lane ht => by rw [faultOccur_latched, ht, Bool.or_true]) set (h hset ha)

theorem rows_estopHeld : KeptRows State.EstopHeld State.EstopHeld := by
  have hcongr {s t : State} (h : t.source .estop = s.source .estop)
      (ha : t.accepted .emergencyStop = s.accepted .emergencyStop) (hs : s.EstopHeld) :
      t.EstopHeld := by unfold State.EstopHeld; rw [h, ha]; exact hs
  have hoccur {s : State} (f : FaultSource) (lane : Option LaneId) (hs : s.EstopHeld) :
      (faultOccur f lane s).EstopHeld := by
    intro ha
    rw [accepted_congr (s := s) (by simp)] at ha
    rw [faultOccur_latched, hs ha, Bool.or_true]
  refine rows_of_faults (fun hf => hcongr (source_congr hf _)) hoccur
    (fun v _ _ => by rw [faultOccur_latched]; rfl)
    (fun {s} v hv _ ha => ?_)
    (fun _ => relatchSet_estopHeld fun h => by cases h)
    (fun set hs => relatchSet_estopHeld fun hset => hcongr ?_ ?_ hs)
    (fun set clear hset hclear hs => hcongr (masks_source_of_not_named hset hclear _) ?_ hs)
    (fun src cls hne hs => hcongr ?_ (by rfl) hs)
  · have hread : (s.setSensor .emergencyStop v).accepted .emergencyStop = v.accepted := by
      simp [State.accepted]
    rw [hread, hv] at ha
    cases ha
  · rw [clearSources_source, if_neg (by simp [hset])]
  · exact accepted_congr (by simp [clearSources]) _
  · exact accepted_congr (masks_position ..) _
  · rw [setSource_source, if_neg (Ne.symm hne)]

/-! ## The belt -/

theorem beltHeld_iff (s : State) : s.BeltHeld ↔ ∀ f, (s.source f).acting = true →
    ((s.source f).cls = .halt ∨ (s.source f).cls = .stop) → s.belt.state.stopping := by
  unfold State.BeltHeld
  rw [stoppingFault_iff]
  exact ⟨fun h f ha hc => h ⟨f, ha, hc⟩, fun h ⟨f, ha, hc⟩ => h f ha hc⟩

/-- The belt is held where it stays on its way to rest and no source comes to act that would stop it. -/
theorem State.BeltHeld.mono {s t : State} (hs : s.BeltHeld)
    (hb : s.belt.state.stopping → t.belt.state.stopping)
    (h : ∀ f, (t.source f).acting = true → (t.source f).cls = .halt ∨ (t.source f).cls = .stop →
      ((s.source f).acting = true ∧ ((s.source f).cls = .halt ∨ (s.source f).cls = .stop)) ∨
        t.belt.state.stopping) : t.BeltHeld := by
  rw [beltHeld_iff] at hs ⊢
  intro f ha hc
  rcases h f ha hc with ⟨ha', hc'⟩ | ht
  · exact hb (hs f ha' hc')
  · exact ht

theorem beltHeld_congr {s t : State} (hf : t.faults = s.faults)
    (hb : s.belt.state.stopping → t.belt.state.stopping) (hs : s.BeltHeld) : t.BeltHeld :=
  hs.mono hb fun f ha hc => .inl (by rw [source_congr hf] at ha hc; exact ⟨ha, hc⟩)

/-- A source that comes to act stops the belt by its class (R24, R151, R152). -/
theorem State.BeltHeld.acts {s : State} (hs : s.BeltHeld) (f : FaultSource) (x : SourceState) :
    (actAndReport f (s.setSource f x)).BeltHeld := by
  have hbelt := actAndReport_belt f (s.setSource f x)
  refine hs.mono (fun hb => ?_) fun g ha hc => ?_
  · rw [hbelt]; exact takeAction_stopping f _ (.inl hb)
  · rw [actAndReport_source, setSource_source] at ha hc
    split at hc
    · refine .inr ?_
      rw [hbelt]
      refine takeAction_stopping f _ (.inr ?_)
      rw [captureFirst_source, setSource_source_same]
      exact hc
    · rw [if_neg ‹_›] at ha
      exact .inl ⟨ha, hc⟩

theorem repeatOccurrence_belt (f : FaultSource) (lane : Option LaneId) (s : State) :
    (repeatOccurrence f lane s).belt = s.belt := by
  unfold repeatOccurrence
  dsimp only
  split
  · rfl
  · split
    · rfl
    · split
      · simp only [fenceLane_frame]; rfl
      · rfl

theorem State.BeltHeld.faultOccur {s : State} (hs : s.BeltHeld) (f : FaultSource)
    (lane : Option LaneId) : (faultOccur f lane s).BeltHeld := by
  by_cases hacts : (s.source f).latched = true ∨ (s.source f).masked = true
  · have hbelt : (Machine.faultOccur f lane s).belt = s.belt := by
      cases hl : (s.source f).latched with
      | true => rw [faultOccur_of_latched hl, repeatOccurrence_belt]
      | false =>
        rw [faultOccur_of_masked hl (hacts.resolve_left (by simp [hl]))]
        simp [State.setSource]
    refine hs.mono (by rw [hbelt]; exact id) fun g ha hc => .inl ?_
    obtain ⟨hm, hcls⟩ := faultOccur_masked f lane s g
    have hl := faultOccur_latched f lane s g
    unfold SourceState.acting at ha ⊢
    rw [hm, hl] at ha
    rw [hcls] at hc
    refine ⟨?_, hc⟩
    by_cases hg : g = f
    · subst hg
      rcases hacts with h | h <;> simp_all
    · simpa [hg] using ha
  · rw [not_or, Bool.not_eq_true, Bool.not_eq_true] at hacts
    rw [faultOccur_of_acts hacts.1 hacts.2]
    exact beltHeld_congr (by simp) (by simp) (hs.acts f ((s.source f).latchedBy lane))

theorem writes_beltHeld : KeptWrites State.BeltHeld where
  freeCount _ h := h
  position _ _ h := h
  induction _ h := h
  cursors _ h := h
  routes _ _ h := h
  lanes _ _ h := h
  closing _ _ h := beltHeld_congr (by simp) (by simp) h
  events _ _ h := h
  counts _ _ _ h := h
  link _ _ h := h
  infeed _ _ h := h
  choose _ h := beltHeld_congr (by simp) (by simp) h
  belt v hv h := beltHeld_congr (by rfl) (fun hb => by rw [setBelt_belt, hv]; exact hb) h
  moveBelt v e hv _ h := beltHeld_congr (by simp) (by simpa using hv) h
  startBelt _ _ hno _ _ hyes := by
    have hno' := Eq.trans hyes.symm hno
    cases hno'

theorem kept_beltHeld : Kept State.BeltHeld :=
  { writes_beltHeld with
    faultOccur := fun f lane h => h.faultOccur f lane
    estopEdge := fun stamp h => by
      unfold acceptEdge handEdge estopEdge
      dsimp only
      split
      · exact State.BeltHeld.faultOccur (by exact h) _ _
      · exact h
    entryClear := KeptOccur.entryClear
      { writes_beltHeld with faultOccur := fun f lane h => h.faultOccur f lane }
      (fun _ _ h => h) (fun _ h => h) }

theorem State.BeltHeld.relatchSet {s : State} (hs : s.BeltHeld) (set : BitVec 16) :
    (relatchSet set s).BeltHeld :=
  relatchSet_invariant (fun f lane h => h.faultOccur f lane) set hs

theorem beltHeld_of_stopped {s : State} (h : s.belt.state = .stopped) : s.BeltHeld :=
  fun _ => .inr (.inr h)

theorem State.BeltHeld.unmaskSource {s : State} (hs : s.BeltHeld) (f : FaultSource) :
    (unmaskSource f s).BeltHeld := by
  have hread (g : FaultSource) := setSource_source s f g { s.source f with masked := false }
  unfold Machine.unmaskSource
  dsimp only
  split
  · exact hs.acts f _
  · rename_i h
    refine hs.mono id fun g ha hc => .inl ?_
    rw [hread] at ha hc
    split at hc
    · subst_vars
      rw [if_pos rfl, unmask_acting (by simpa using h)] at ha
      exact ⟨ha, hc⟩
    · rw [if_neg ‹_›] at ha
      exact ⟨ha, hc⟩

theorem State.BeltHeld.changeMasks {s : State} (hs : s.BeltHeld) (set clear : BitVec 16) :
    (changeMasks set clear s).BeltHeld := by
  refine kept_beltHeld.chooseInfeed (foldl_invariant _ _ (fun t f ht => ?_) _ _ ?_)
  · split
    · exact ht.unmaskSource f
    · exact ht
  · refine hs.mono (by simp [maskSources]) fun f ha hc => .inl ?_
    rw [maskSources_source] at ha hc
    split at hc
    · rw [if_pos ‹_›] at ha
      simp [SourceState.acting] at ha
    · rw [if_neg ‹_›] at ha
      exact ⟨ha, hc⟩

theorem State.BeltHeld.clearSources {s : State} (hs : s.BeltHeld) (set : BitVec 16) :
    (clearSources set s).BeltHeld := by
  refine hs.mono (by simp [Machine.clearSources]) fun f ha hc => .inl ?_
  rw [clearSources_source] at ha hc
  split at hc
  · rw [if_pos ‹_›] at ha
    simp [SourceState.acting, SourceState.cleared] at ha
  · rw [if_neg ‹_›] at ha
    exact ⟨ha, hc⟩

/-- A class no higher than HALT or STOP's that is one of them comes from one of them. -/
theorem ActionClass.stops_of_rank {c d : ActionClass} (h : ¬ c.rank < d.rank)
    (hd : d = .halt ∨ d = .stop) : c = .halt ∨ c = .stop := by
  cases c <;> cases d <;> simp_all [ActionClass.rank]

theorem State.BeltHeld.changeClass {s : State} (hs : s.BeltHeld) (src : FaultSource)
    (cls : ActionClass) : (changeClass src cls s).BeltHeld := by
  have hread (g : FaultSource) := setSource_source s src g { s.source src with cls := cls }
  refine kept_beltHeld.chooseInfeed ?_
  split
  · have hbelt : (reportDue src (takeAction src
        (s.setSource src { s.source src with cls := cls }))).belt =
        (takeAction src (s.setSource src { s.source src with cls := cls })).belt := rfl
    refine hs.mono (fun hb => ?_) fun g ha hc => ?_
    · rw [hbelt]; exact takeAction_stopping src _ (.inl hb)
    · rw [source_congr (s := s.setSource src { s.source src with cls := cls })
        (by simp [reportDue]), hread] at ha hc
      split at hc
      · refine .inr ?_
        rw [hbelt]
        exact takeAction_stopping src _ (.inr (by rw [setSource_source_same]; exact hc))
      · rw [if_neg ‹_›] at ha
        exact .inl ⟨ha, hc⟩
  · rename_i hr
    refine hs.mono id fun g ha hc => .inl ?_
    rw [hread] at ha hc
    split at hc
    · rename_i hg
      rw [if_pos hg] at ha
      have hrank : ¬ (s.source src).cls.rank < cls.rank := by
        simpa [State.raises, show (s.source src).acting = true from ha] using hr
      exact hg ▸ ⟨ha, ActionClass.stops_of_rank hrank hc⟩
    · rw [if_neg ‹_›] at ha
      exact ⟨ha, hc⟩

theorem rows_beltHeld : KeptRows State.BeltHeld State.BeltHeld where
  between := kept_beltHeld
  during := kept_beltHeld
  take _ h := h
  reply _ _ _ h := h
  busy _ _ h := h
  addFence _ _ h := h
  resetHold _ h := h
  endReset _ _ _ := State.BeltHeld.relatchSet (beltHeld_of_stopped rfl) _
  freeRecord _ h := kept_beltHeld.chooseInfeed (beltHeld_congr (by rfl) id h)
  clearFaults set h := kept_beltHeld.chooseInfeed ((h.clearSources set).relatchSet set)
  changeMasks set clear _ _ h := h.changeMasks set clear
  changeClass src cls _ h := h.changeClass src cls
  lineConfig _ h := by
    refine kept_beltHeld.chooseInfeed (kept_beltHeld.rearmJam ?_)
    split
    · exact kept_beltHeld.acceptAll h
    · exact h
  resetConfig _ := kept_beltHeld.chooseInfeed (kept_beltHeld.rearmJam
    (State.BeltHeld.relatchSet (beltHeld_of_stopped rfl) _))

/-- Settles O48: no row writes ESTOP's class or mask, none unlatches it while its input is asserted, and a
source comes to act with class HALT or STOP only where the action stops the belt. -/
theorem emergencyStopHoldsTheBelt : Obligations.EmergencyStopHoldsTheBelt :=
  fun _ _ hfixed hheld hbelt ht =>
    ⟨rows_estopFixed.step (fun _ h => h) hfixed ht, rows_estopHeld.step (fun _ h => h) hheld ht,
      rows_beltHeld.step (fun _ h => h) hbelt ht⟩

end Sys2Proof.Machine
end

section
/-! SUPPORT. The infeed's state (R27): what bears on the choice, and the statement that every row leaves the
state chosen. -/

namespace Sys2Proof.Machine

/-- The choice reads the infeed, whether a fault stops the belt, the records in use, the reserve and whether
the belt runs (R27). -/
theorem State.InfeedChosen.of_same {s t : State} (hs : s.InfeedChosen)
    (hinfeed : t.infeed = s.infeed) (hfault : t.stoppingFault = s.stoppingFault)
    (hpool : t.tracking.list.length + t.tracking.fatePending.length =
      s.tracking.list.length + s.tracking.fatePending.length)
    (hline : t.line = s.line) (hbelt : t.belt.state = .run ↔ s.belt.state = .run) : t.InfeedChosen := by
  unfold State.InfeedChosen State.infeedChoice State.freeRecords at hs ⊢
  rw [hinfeed, hfault, hpool, hline]
  simp only [ne_eq, hbelt]
  exact hs

theorem stoppingFault_congr {s t : State}
    (h : ∀ f, (t.source f).acting = (s.source f).acting ∧ (t.source f).cls = (s.source f).cls) :
    t.stoppingFault = s.stoppingFault := by
  unfold State.stoppingFault
  simp only [(h _).1, (h _).2]

theorem repeatOccurrence_infeed (f : FaultSource) (lane : Option LaneId) (s : State) :
    (repeatOccurrence f lane s).infeed = s.infeed := by
  unfold repeatOccurrence
  dsimp only
  split
  · rfl
  · split
    · rfl
    · split
      · simp only [fenceLane_frame]; rfl
      · rfl

/-- A repeated occurrence keeps the records in use. -/
theorem repeatOccurrence_counts (f : FaultSource) (lane : Option LaneId) (s : State) :
    CountsKept s (repeatOccurrence f lane s) := by
  have hset (x : SourceState) : CountsKept s (s.setSource f x) :=
    ⟨rfl, rfl, le_rfl, rfl⟩
  unfold repeatOccurrence
  dsimp only
  split
  · exact hset _
  · split
    · exact hset _
    · split
      · exact (hset _).trans (fenceLane_counts ..)
      · exact hset _

theorem State.InfeedChosen.faultOccur {s : State} (hs : s.InfeedChosen) (f : FaultSource)
    (lane : Option LaneId) : (faultOccur f lane s).InfeedChosen := by
  cases hl : (s.source f).latched with
  | true =>
    have hfault : (Machine.faultOccur f lane s).stoppingFault = s.stoppingFault := by
      refine stoppingFault_congr fun g => ?_
      obtain ⟨hm, hc⟩ := faultOccur_masked f lane s g
      refine ⟨?_, hc⟩
      unfold SourceState.acting
      rw [hm, faultOccur_latched]
      by_cases hg : g = f <;> simp [hg, hl]
    rw [faultOccur_of_latched hl] at hfault ⊢
    exact hs.of_same (repeatOccurrence_infeed ..) hfault (repeatOccurrence_counts ..).2.2.2 (by simp)
      (by rw [repeatOccurrence_belt])
  | false =>
    cases hm : (s.source f).masked with
    | true => rw [faultOccur_of_masked hl hm]; exact chooseInfeed_chosen _
    | false => rw [faultOccur_of_acts hl hm]; exact chooseInfeed_chosen _

theorem writes_infeedChosen : KeptWrites State.InfeedChosen where
  freeCount _ h := h
  position _ _ h := h
  induction _ h := h
  cursors _ h := h
  routes _ _ h := h
  lanes _ _ h := h
  closing {s} l target h := h.of_same (by simp) (stoppingFault_congr fun f => by
    rw [source_congr (s := s) (by simp)]; exact ⟨rfl, rfl⟩) (enterClosing_counts l target _).2.2.2
    (by simp) (by simp)
  events _ _ h := h
  counts _ _ hc h := h.of_same rfl rfl hc.2.2.2 rfl .rfl
  link _ _ h := h
  infeed {s} v hv h := by
    obtain ⟨henable, hstate, hpool, hjam, hgap⟩ := hv
    have hsame := infeedChoice_congr (t := s.setInfeed v) henable hpool hjam hgap rfl rfl rfl rfl
    exact hstate.trans (h.trans hsame.symm)
  choose _ _ := chooseInfeed_chosen _
  belt _ hv h := h.of_same rfl rfl rfl rfl (by rw [setBelt_belt, hv])
  moveBelt _ _ _ _ _ := chooseInfeed_chosen _
  startBelt v hstopped _ hv h := h.of_same rfl rfl rfl rfl (by simp [hstopped, hv])

theorem kept_infeedChosen : Kept State.InfeedChosen :=
  { writes_infeedChosen with
    faultOccur := fun f lane h => h.faultOccur f lane
    estopEdge := fun stamp h => by
      unfold acceptEdge handEdge estopEdge
      dsimp only
      split
      · exact State.InfeedChosen.faultOccur (by exact h) _ _
      · exact h
    entryClear := fun _ _ => chooseInfeed_chosen _ }

theorem startUp_infeedChosen (s : State) (cause : ResetCause) (fast : Bool) :
    (s.startUp cause fast).InfeedChosen := rfl

theorem rows_infeedChosen : KeptRows State.InfeedChosen State.InfeedChosen where
  between := kept_infeedChosen
  during := kept_infeedChosen
  take _ h := h
  reply _ _ _ h := h
  busy _ _ h := h
  addFence _ _ h := h
  resetHold _ h := h
  endReset cause fast _ :=
    relatchSet_invariant (fun f lane h => h.faultOccur f lane) _ (startUp_infeedChosen _ cause fast)
  freeRecord _ _ := chooseInfeed_chosen _
  clearFaults _ _ := chooseInfeed_chosen _
  changeMasks _ _ _ _ _ := chooseInfeed_chosen _
  changeClass _ _ _ _ := chooseInfeed_chosen _
  lineConfig _ _ := chooseInfeed_chosen _
  resetConfig _ := chooseInfeed_chosen _

/-- Settles O21: a row that writes what the choice reads ends with the choice, or leaves what it reads as
it was. -/
theorem infeedStateKept : Obligations.InfeedStateKept := fun _ _ hs ht =>
  rows_infeedChosen.step (fun _ h => h) hs ht

end Sys2Proof.Machine
end

section
/-! SUPPORT. Pin reset (R186, R191, R192): what is held while reset is, and the starting values. -/

namespace Sys2Proof.Machine

/-! ## While reset is held -/

theorem running_of_held {s : State} (h : s.resetHold.isSome = true) : s.running = false := by
  unfold State.running
  cases hr : s.resetHold with
  | none => simp [hr] at h
  | some _ => rfl

theorem running_iff (s : State) : s.running = true ↔ s.resetHold = none := by
  simp [State.running]

theorem whenRunning_held {s : State} (h : s.running = false) (f : State → State) :
    whenRunning s f = s := if_neg (by simp [h])

theorem whenRunning_running {s : State} (h : s.resetHold = none) (f : State → State) :
    whenRunning s f = f s := if_pos ((running_iff s).2 h)

theorem whenDue_held {s : State} (h : s.running = false) (c : Bool) (f : State → State) :
    whenDue c f s = s := if_neg (by simp [h])

theorem whenDue_due {s : State} (h : s.resetHold = none) {c : Bool} (hc : c = true)
    (f : State → State) : whenDue c f s = f s := if_pos (by simp [hc, (running_iff s).2 h])

theorem whenDue_not_due {s : State} {c : Bool} (hc : c = false) (f : State → State) :
    whenDue c f s = s := if_neg (by simp [hc])

theorem onFrame_held {s : State} (h : s.running = false) (p : Frame → Bool)
    (body : Frame → State → State) : onFrame p body s = s :=
  if_neg (by simp [State.canTake, h])

/-- `t` is `s` but for the levels last sampled at the pins. -/
def SampledOnly (s t : State) : Prop :=
  { t with position := s.position } = s ∧
    { t.position with encoder := s.position.encoder, sensors := s.position.sensors } = s.position ∧
    ∀ i : Fin 34, t.position.sensors[i].accepted = s.position.sensors[i].accepted ∧
      t.position.sensors[i].candidate = s.position.sensors[i].candidate

theorem SampledOnly.refl (s : State) : SampledOnly s s := ⟨rfl, rfl, fun _ => ⟨rfl, rfl⟩⟩

theorem sampledOnly_takeSample {s : State} (h : s.running = false) (now : LevelPair) :
    SampledOnly s (takeSample now s) := by
  unfold takeSample
  rw [whenRunning_held (by exact h)]
  exact ⟨rfl, rfl, fun _ => ⟨rfl, rfl⟩⟩

theorem sampledOnly_sensorChange {s : State} (h : s.running = false) (i : SensorInput)
    (level : Bool) : SampledOnly s (whenRunning (s.setSensor i { s.sensor i with raw := level })
      fun t => filterLevel i level (acceptDue i t)) := by
  rw [whenRunning_held (by exact h)]
  refine ⟨rfl, rfl, fun j => ?_⟩
  by_cases hj : j = i.idx
  · subst hj
    simp [State.setSensor, State.sensor]
  · have hne : i.idx.val ≠ j.val := fun e => hj (Fin.ext e.symm)
    simp [State.setSensor, hne]

/-- Settles O3: each row but the three reset rows is guarded by the hold, and the two rows of the position
unit's pins write the levels last sampled before it (R191). -/
theorem heldResetStopsTheInputs : Obligations.HeldResetStopsTheInputs := by
  refine ⟨fun s => ⟨rfl, rfl⟩, fun c s hs hon hassert hend => ?_⟩
  have hrun := running_of_held hs
  have same {t : State} (ht : t = s) : ∃ u, Host.Outcome.next t = (.next u : Result) ∧ SampledOnly s u :=
    ⟨s, by rw [ht], .refl s⟩
  cases c
  case powerOn => exact absurd rfl hon
  case resetAssert => exact absurd rfl hassert
  case resetEnd fast => exact absurd rfl (hend fast)
  case encoderStep a b => exact ⟨_, rfl, sampledOnly_takeSample hrun _⟩
  case phaseError => exact ⟨_, rfl, sampledOnly_takeSample hrun _⟩
  case sensorChange i level => exact ⟨_, rfl, sampledOnly_sensorChange hrun i level⟩
  case spacingTimerExpiry => exact same rfl
  case measuredSpeedUpdate | jamTrigger | trailExpiry | gapReleaseTrigger | standstill |
      encoderStall | decisionTrigger | runoutTrigger | retractEnd | settleEnd | fullDelayExpiry |
      laneJamExpiry | lastFireExpiry | arbiterTake => exact same (whenDue_held hrun _ _)
  case sensorEdgeAccepted | beltTick | fireTrigger | dwellEnd | windowCloseTrigger | receiveByte |
      byteGapTimeout | frameSent => exact same (whenRunning_held hrun _)
  all_goals exact same (onFrame_held hrun _ _)

/-! ## The re-latch of level sources (R142, R155) -/

/-- Source `f` re-latches where a set names it. -/
def relatchIn (set : BitVec 16) (f : FaultSource) (s : State) : State :=
  if inSourceSet set f then relatch f s else s

theorem relatchSet_eq (set : BitVec 16) (s : State) :
    relatchSet set s =
      relatchIn set .laneJam (relatchIn set .entryJam (relatchIn set .estop s)) := rfl

theorem relatchSet_all (s : State) :
    relatchSet 0x7FFF s = relatch .laneJam (relatch .entryJam (relatch .estop s)) := rfl

theorem relatch_of_not {f : FaultSource} {s : State} (h : s.conditionHolds f = false) :
    relatch f s = s := if_neg (by simp [h])

theorem relatch_estop {s : State} (h : s.accepted .emergencyStop = true) :
    relatch .estop s = faultOccur .estop none s :=
  if_pos (show s.conditionHolds .estop = true from h)

theorem relatch_entryJam {s : State} (h : s.induction.measurement = .jammed) :
    relatch .entryJam s = faultOccur .entryJam none s :=
  if_pos (show s.conditionHolds .entryJam = true by
    simp [State.conditionHolds, State.entryJammed, h])

theorem conditionHolds_entryJam {s : State} :
    s.conditionHolds .entryJam = decide (s.induction.measurement = .jammed) := rfl

theorem conditionHolds_laneJam_of_none {s : State} (h : ∀ l : LaneId, (s.lane l).jam = false) :
    s.conditionHolds .laneJam = false := by
  simp [State.conditionHolds, h]

/-! ## Starting values -/

theorem startUp_conditions (s : State) (cause : ResetCause) (fast : Bool) :
    (s.startUp cause fast).conditionHolds .entryJam = false ∧
      (s.startUp cause fast).conditionHolds .laneJam = false := by
  refine ⟨?_, conditionHolds_laneJam_of_none fun l => by rw [startUp_lane]; rfl⟩
  rw [conditionHolds_entryJam]
  show decide ((Induction.reset (s.sensor .entryEye).raw).measurement = .jammed) = false
  cases (s.sensor .entryEye).raw <;> rfl

theorem startUp_sensor (s : State) (cause : ResetCause) (fast : Bool) (i : Fin 34) :
    (s.startUp cause fast).position.sensors[i] =
      { raw := s.position.sensors[i].raw, accepted := s.position.sensors[i].raw,
        candidate := none } := by
  simp [State.startUp, PositionUnit.reset, SensorState.atReset]

theorem startUp_accepted (s : State) (cause : ResetCause) (fast : Bool) (i : SensorInput) :
    (s.startUp cause fast).accepted i = (s.sensor i).raw := by
  unfold State.accepted State.sensor
  rw [startUp_sensor]

theorem startUp_source (s : State) (cause : ResetCause) (fast : Bool) (f : FaultSource) :
    (s.startUp cause fast).source f = SourceState.reset f := by
  have hread : (s.startUp cause fast).source f = FaultUnit.reset.sources[f.idx] := rfl
  rw [hread]
  cases f <;> rfl

/-- With the emergency stop released no level source's condition holds as reset ends. -/
theorem endReset_released {s : State} (h : (s.sensor .emergencyStop).raw = false)
    (cause : ResetCause) (fast : Bool) : endReset cause fast s = s.startUp cause fast := by
  obtain ⟨hentry, hlane⟩ := startUp_conditions s cause fast
  have hestop : (s.startUp cause fast).conditionHolds .estop = false :=
    (startUp_accepted ..).trans h
  rw [endReset, relatchSet_all, relatch_of_not hestop, relatch_of_not hentry, relatch_of_not hlane]

theorem exec_resetEnd {s : State} {cause : ResetCause} (h : s.resetHold = some cause)
    (fast : Bool) : exec (.resetEnd fast) s = .next (endReset cause fast s) := by
  show execResetEnd fast s = _
  rw [execResetEnd, h]

/-- Settles O4: with the emergency stop released RESET_END leaves `State.startUp`. -/
theorem resetEndStartsEveryBlock : Obligations.ResetEndStartsEveryBlock := by
  intro s cause fast hhold hestop
  refine ⟨_, exec_resetEnd hhold fast, ?_⟩
  rw [endReset_released hestop]
  refine ⟨rfl, rfl, rfl, rfl, rfl, rfl, rfl, startUp_sensor s cause fast, rfl,
    ⟨rfl, rfl, rfl, rfl, rfl, rfl, rfl, rfl, rfl, rfl, rfl, rfl⟩, rfl, ?_, rfl,
    ⟨rfl, rfl, fun i => RouteTable.reset_entry i⟩, ?_, fun l => ?_, ⟨rfl, fun f => ?_⟩,
    ⟨rfl, rfl, rfl, rfl, rfl, fun i => ?_⟩, rfl⟩
  · have hread : (s.startUp cause fast).induction = Induction.reset (s.sensor .entryEye).raw := rfl
    rw [hread]
    cases (s.sensor .entryEye).raw <;> exact ⟨rfl, rfl, rfl, rfl, rfl⟩
  · intro g
    simp [State.startUp, resetCursors]
  · rw [startUp_lane]
    refine ⟨rfl, rfl, rfl, rfl, rfl, rfl, rfl, rfl, rfl, rfl, fun k => ?_⟩
    simp [LaneUnit.reset]
  · rw [startUp_source]
    exact ⟨rfl, rfl, rfl, rfl, rfl⟩
  · have hevents : (s.startUp cause fast).events = EventUnit.reset := rfl
    simp [hevents, EventUnit.reset]

/-! ## Reset with the emergency stop asserted (R192) -/

/-- With every diverter out of EXTEND the retract requests change nothing (R126). -/
theorem retractRequests_of_rest {s : State} (h : ∀ l : LaneId, (s.lane l).phase ≠ .extend) :
    forLanes retractRequest s = s := by
  refine forLanes_invariant (fun t => t = s) _ (fun l t ht => ?_) s rfl
  rw [ht, retractRequest, if_neg (h l)]

theorem chooseInfeed_disabled {s : State} (he : s.infeed.enable = false)
    (hs : s.infeed.state = .off) : chooseInfeed s = s :=
  chooseInfeed_of_chosen (by simp [State.InfeedChosen, State.infeedChoice, he, hs])

theorem abortFences_none {s : State} (h : s.tracking.fences = []) : abortFences s = s := by
  have hsame : ({ s.tracking with fences := [] } : Tracking) = s.tracking := by rw [← h]
  unfold abortFences
  rw [hsame, h, List.map_nil, List.append_nil]
  rfl

/-- The STOP action on a part at rest with nothing tracked: the belt brakes (R152). -/
theorem stopAction_of_rest {s : State} (hphase : ∀ l : LaneId, (s.lane l).phase ≠ .extend)
    (hlist : s.tracking.list = []) (hfences : s.tracking.fences = [])
    (he : s.infeed.enable = false) (hs : s.infeed.state = .off) (hb : s.belt.state ≠ .brake) :
    stopAction s = s.setBelt { s.belt with
      state := .brake, target := 0, reference := 0, standstillTimer := 0 } := by
  have hbrake : beltBrake s = s.setBelt { s.belt with
      state := .brake, target := 0, reference := 0, standstillTimer := 0 } := by
    rw [beltBrake_of_ne hb, enterBrake]
    exact chooseInfeed_disabled he hs
  rw [stopAction, hbrake, retractRequests_of_rest (by exact hphase), purge_nothing (by exact hlist),
    abortFences_none (by exact hfences)]

/-- ESTOP as it stands once reset ends with the emergency stop asserted (R144, R192). -/
def estopAtReset : SourceState := (SourceState.reset .estop).latchedBy none

/-- The part as reset ends with the emergency stop asserted: ESTOP has acted. -/
def State.stoppedAtReset (s : State) : State :=
  ((((s.setSource .estop estopAtReset).setFaults
      { (s.setSource .estop estopAtReset).faults with first := some .estop }).setBelt
    { s.belt with state := .brake, target := 0, reference := 0, standstillTimer := 0 }).setLink
    { s.link with faultReports :=
      [{ source := .estop, count := 1, cls := .stop, first := true, lane := none }] })

theorem faultOccur_estop_startUp (s : State) (cause : ResetCause) (fast : Bool) :
    faultOccur .estop none (s.startUp cause fast) = (s.startUp cause fast).stoppedAtReset := by
  have hsource := startUp_source s cause fast .estop
  have hlane := startUp_lane s cause fast
  generalize hu : s.startUp cause fast = u at hsource hlane
  have hinfeed : u.infeed = Infeed.reset := by rw [← hu]; rfl
  have htracking : u.tracking = Tracking.reset := by rw [← hu]; rfl
  have hbelt : u.belt = BeltDrive.reset := by rw [← hu]; rfl
  have hfirst : u.faults.first = none := by rw [← hu]; rfl
  have hreports : u.link.faultReports = [] := by rw [← hu]; rfl
  rw [faultOccur_of_acts (by rw [hsource]; rfl) (by rw [hsource]; rfl), hsource]
  show chooseInfeed (reportDue .estop (takeAction .estop
    (captureFirst .estop (u.setSource .estop estopAtReset)))) = _
  have hcls : ((captureFirst .estop (u.setSource .estop estopAtReset)).source .estop).cls = .stop := by
    rw [captureFirst_source, setSource_source_same]; rfl
  have hact : ∀ t : State, (t.source .estop).cls = .stop →
      takeAction .estop t = stopAction t := by
    intro t ht; unfold takeAction; rw [ht]
  rw [hact _ hcls, stopAction_of_rest]
  · rw [chooseInfeed_disabled (by show u.infeed.enable = _; rw [hinfeed]; rfl)
      (by show u.infeed.state = _; rw [hinfeed]; rfl)]
    simp [State.stoppedAtReset, reportDue, captureFirst, hfirst, hreports, placeFaultReport,
      State.setSource, State.source, State.setFaults, State.setBelt, State.setLink, estopAtReset,
      FaultSource.laneScoped, SourceState.latchedBy, SourceState.counted, SourceState.reset,
      FaultSource.defaultClass]
  · intro l
    show (u.lane l).phase ≠ _
    rw [hlane]
    simp [LaneUnit.reset]
  · show u.tracking.list = []
    rw [htracking]; rfl
  · show u.tracking.fences = []
    rw [htracking]; rfl
  · show u.infeed.enable = _
    rw [hinfeed]; rfl
  · show u.infeed.state = _
    rw [hinfeed]; rfl
  · show u.belt.state ≠ _
    rw [hbelt]; decide

theorem endReset_stopped {s : State} (h : (s.sensor .emergencyStop).raw = true)
    (cause : ResetCause) (fast : Bool) :
    endReset cause fast s = (s.startUp cause fast).stoppedAtReset := by
  obtain ⟨hentry, hlane⟩ := startUp_conditions s cause fast
  have hestop : (s.startUp cause fast).accepted .emergencyStop = true :=
    (startUp_accepted ..).trans h
  have hentry' : (s.startUp cause fast).stoppedAtReset.conditionHolds .entryJam = false := hentry
  have hlane' : (s.startUp cause fast).stoppedAtReset.conditionHolds .laneJam = false := hlane
  rw [endReset, relatchSet_all, relatch_estop hestop, faultOccur_estop_startUp,
    relatch_of_not hentry', relatch_of_not hlane']

/-- Settles O5: RESET_END with the emergency stop asserted leaves the starting values with ESTOP latched
and its action taken. -/
theorem resetEndWithEmergencyStop : Obligations.ResetEndWithEmergencyStop := by
  intro s cause fast hhold hestop
  have hsource : (s.startUp cause fast).stoppedAtReset.source .estop = estopAtReset :=
    setSource_source_same ..
  have hattention : (s.startUp cause fast).stoppedAtReset.unmaskedLatched = true :=
    (unmaskedLatched_iff _).2 ⟨.estop, by rw [hsource]; rfl⟩
  have hatt : (s.startUp cause fast).stoppedAtReset.attention = true := by
    simp [State.attention, hattention]
  refine ⟨_, exec_resetEnd hhold fast, ?_⟩
  rw [endReset_stopped hestop]
  refine ⟨rfl, by rw [hsource]; rfl, by rw [hsource]; rfl, rfl, rfl, rfl, rfl, rfl, rfl, rfl, rfl,
    rfl, fun i => ?_, hatt, ?_⟩
  · show EventUnit.reset.entries[i] = none
    simp [EventUnit.reset]
  · have hpin : (s.startUp cause fast).stoppedAtReset.atnPin =
        ((s.startUp cause fast).stoppedAtReset.attention == false) := rfl
    rw [hpin, hatt]
    rfl

/-! ## The invariants at power-on -/

theorem startUp_powerOn {s : State} (hp : s.pending = []) (hf : s.freeCount = 0)
    (he : s.position.encoder = { a := false, b := false })
    (hraw : ∀ i : Fin 34, s.position.sensors[i].raw = false) :
    s.startUp .powerOn false = State.reset := by
  have hsensor (i : SensorInput) : (s.sensor i).raw = false := hraw i.idx
  have hvec : (Vector.ofFn fun i : Fin 34 => s.position.sensors[i].raw) =
      Vector.replicate 34 false := by
    ext i hi
    simpa using hraw ⟨i, hi⟩
  have hlanes : (Vector.ofFn fun l : Fin 16 => LaneUnit.reset (s.sensor (.fullSensor l)).raw) =
      Vector.replicate 16 (LaneUnit.reset false) := by
    simp only [hsensor]
    ext i hi
    all_goals simp
  unfold State.startUp State.reset
  rw [hp, hf, he, hvec, hsensor, hlanes]

theorem reset_lane (l : LaneId) : State.reset.lane l = LaneUnit.reset false := by
  simp [State.reset, State.lane]

/-- Settles O60: power-on ends in `State.reset`, where every table is empty and no input is asserted. -/
theorem invariantsHoldAtReset : Obligations.InvariantsHoldAtReset := by
  refine ⟨fun s hp hf hhold he hraw => ?_, .of_reset rfl, ⟨rfl, rfl⟩, ?_,
    beltHeld_of_stopped rfl, firstFaultNamed_of_reset rfl, ?_, ⟨?_, ?_, ?_⟩, ?_, rfl, ?_, ?_⟩
  · rw [exec_resetEnd hhold, endReset_released (hraw _), startUp_powerOn hp hf he hraw]
  · intro ha
    simp [State.accepted, State.sensor, State.reset, PositionUnit.reset, SensorState.atReset] at ha
  · exact State.EntriesEnabled.cleared State.reset EventUnit.reset rfl
  · exact Nat.zero_le _
  · exact Nat.zero_le _
  · exact Nat.zero_le _
  · exact Nat.zero_le _
  · intro l
    rw [reset_lane]
    exact LaneUnit.settled_reset _
  · exact List.nodup_nil

end Sys2Proof.Machine
end

section
/-! SUPPORT. The position unit's rows (R1 to R13): decoding, steps and the sensor filter. -/

namespace Sys2Proof.Machine

/-! ## Decoding -/

theorem decodeQuad_both (m : EncoderMode) (a b : Bool) :
    decodeQuad m ⟨a, b⟩ ⟨!a, !b⟩ = .phaseError := by
  simp [decodeQuad]

theorem decodeQuad_same (m : EncoderMode) (a b : Bool) :
    decodeQuad m ⟨a, b⟩ ⟨a, b⟩ = .noStep := by
  simp [decodeQuad]

theorem decodeA_ne_phaseError (m : EncoderMode) (a b : Bool) : decodeA m a b ≠ .phaseError := by
  unfold decodeA
  split
  · decide
  · decide
  all_goals split <;> decide

theorem decodeB_ne_phaseError (m : EncoderMode) (a b : Bool) : decodeB m a b ≠ .phaseError := by
  unfold decodeB
  split
  · split <;> decide
  · decide

/-- A phase error is a sample with both lines changed (R5). -/
theorem eq_of_decodeQuad_phaseError {m : EncoderMode} {ref now : LevelPair}
    (h : decodeQuad m ref now = .phaseError) : now = ⟨!ref.a, !ref.b⟩ := by
  unfold decodeQuad at h
  split at h
  · rename_i ha
    split at h
    · rename_i hb
      obtain ⟨a, b⟩ := now
      rw [LevelPair.mk.injEq]
      exact ⟨Bool.eq_not_of_ne (Ne.symm ha), Bool.eq_not_of_ne (Ne.symm hb)⟩
    · exact absurd h (decodeA_ne_phaseError _ _ _)
  · split at h
    · exact absurd h (decodeB_ne_phaseError _ _ _)
    · cases h

theorem decodePulse_ne_phaseError (ref now : LevelPair) : decodePulse ref now ≠ .phaseError := by
  unfold decodePulse
  split <;> decide

/-- The configuration's phase errors are the quadrature modes' (R3, R5). -/
theorem eq_of_decode_phaseError {c : LineConfig} {ref now : LevelPair}
    (h : c.decode ref now = .phaseError) : now = ⟨!ref.a, !ref.b⟩ := by
  have hd : (if c.mode = .pulseUpDown then decodePulse ref now else decodeQuad c.mode ref now) =
      .phaseError := by
    unfold LineConfig.decode at h
    dsimp only at h
    split at h
    · generalize (if c.mode = .pulseUpDown then decodePulse ref now
        else decodeQuad c.mode ref now) = d at h ⊢
      cases d <;> simp_all [Decoded.invert]
    · exact h
  split at hd
  · exact absurd hd (decodePulse_ne_phaseError ref now)
  · exact eq_of_decodeQuad_phaseError hd

theorem decode_both {c : LineConfig} (hm : c.mode ≠ .pulseUpDown) (a b : Bool) :
    c.decode ⟨a, b⟩ ⟨!a, !b⟩ = .phaseError := by
  unfold LineConfig.decode
  rw [if_neg hm, decodeQuad_both]
  cases c.inverted <;> rfl

/-! ## Samples -/

theorem takeSample_running {s : State} (h : s.resetHold = none) (now : LevelPair) :
    takeSample now s =
      match s.line.decode s.position.encoder now with
      | .forward => forwardStep (s.setPosition { s.position with encoder := now })
      | .backward => backwardStep (s.setPosition { s.position with encoder := now })
      | .noStep => s.setPosition { s.position with encoder := now }
      | .phaseError => faultOccur .encoderPhase none
          (s.setPosition { s.position with encoder := now }) := by
  unfold takeSample
  exact whenRunning_running (by exact h) _

theorem exec_encoderStep (a b : Bool) (s : State) :
    exec (.encoderStep a b) s = .next (takeSample ⟨a, b⟩ s) := rfl

theorem exec_phaseError (s : State) :
    exec .phaseError s =
      .next (takeSample ⟨!s.position.encoder.a, !s.position.encoder.b⟩ s) := rfl

/-- Settles O7: by the tables of the decoding functions; a phase error is the sample with both lines
changed, which is PHASE_ERROR's. -/
theorem decodingTables : Obligations.DecodingTables := by
  refine ⟨fun m b hm => ?_, fun m a b => ⟨decodeQuad_both m a b, decodeQuad_same m a b⟩,
    fun b => ?_, fun c ref now hc => ?_, fun c ref now => ?_, fun s a b hs => ⟨fun h => ?_, fun h => ?_⟩⟩
  · cases m
    case pulseUpDown => exact absurd rfl hm
    all_goals cases b <;> exact ⟨rfl, rfl, rfl, rfl, rfl, rfl⟩
  · cases b <;> exact ⟨rfl, rfl, rfl, rfl, rfl⟩
  · unfold LineConfig.decode
    rw [hc]
    rfl
  · show ({ c with inverted := false }.decode ref now).invert = _
    cases { c with inverted := false }.decode ref now <;> rfl
  · rw [exec_encoderStep, takeSample_running hs, h]
    rfl
  · rw [exec_encoderStep, exec_phaseError, eq_of_decode_phaseError h]

/-! ## Steps -/

theorem reachTriggers_lane (c : Word) (s : State) (l : LaneId) :
    (reachTriggers c s).lane l = (s.lane l).step c := by
  simp [reachTriggers, State.lane]

/-- An expiry trigger at 65,536 counts past a position that may be absent, as a forward step leaves it. -/
theorem expiry_step (a : Arm) (p : Option Word) (c : Word) :
    (match p with
      | some t => a.step c (t.plus Config.expiryDistance)
      | none => a) =
    if a = .armed ∧ p.any (fun t => decide (c = t.plus 65536)) then .reached else a := by
  cases p with
  | none => simp
  | some t =>
    simp [Arm.step, Config.expiryDistance]
    rfl

theorem Record.step_eq (r : Record) (c : Word) : r.step c = { r with
    decisionArm :=
      if r.decisionArm = .armed ∧ c = r.decisionPoint then .reached else r.decisionArm
    runoutArm := if r.runoutArm = .armed ∧ c = r.runoutPoint then .reached else r.runoutArm } := rfl

theorem Infeed.step_eq (i : Infeed) (c : Word) : i.step c = { i with
    gapRelease := i.gapRelease.map fun g => { g with
      reached := g.reached || decide (c = g.pos) } } := rfl

theorem Induction.step_eq (i : Induction) (c : Word) : i.step c = { i with
    jamTrigger := i.jamTrigger.map fun g => { g with reached := g.reached || decide (c = g.pos) }
    trailExpiry :=
      if i.trailExpiry = .armed ∧ i.prevTrail.any (fun p => c = p.plus 65536) then .reached
      else i.trailExpiry } := by
  rw [← expiry_step]
  rfl

theorem LaneUnit.step_eq (u : LaneUnit) (c : Word) : u.step c = { u with
    queue := u.queue.map fun e => { e with
      fireArm := if e.fireArm = .armed ∧ c = e.firePos then .reached else e.fireArm
      closeArm := if e.closeArm = .armed ∧ c = e.closePos then .reached else e.closeArm }
    dwellEnd := u.dwellEnd.map fun g => { g with reached := g.reached || decide (c = g.pos) }
    lastFireExpiry :=
      if u.lastFireExpiry = .armed ∧ u.lastFire.any (fun p => c = p.plus 65536) then .reached
      else u.lastFireExpiry } := by
  rw [← expiry_step]
  rfl

/-- Settles O8: the blocks that `forwardStep` writes, one by one. -/
theorem forwardStepMovesTheBelt : Obligations.ForwardStepMovesTheBelt := by
  intro s a b hs hdecode
  refine ⟨forwardStep (s.setPosition { s.position with encoder := ⟨a, b⟩ }), ?_, ?_, ?_, ?_, ?_,
    ?_, fun l => ?_, ?_⟩
  · rw [exec_encoderStep, takeSample_running hs, hdecode]
  · simp only [forwardStep, reachTriggers, setLanes_position, setTracking_position,
      setInfeed_position, setInduction_position, setBelt_position, setPosition_position]
  · simp only [forwardStep, reachTriggers, setLanes_belt, setTracking_belt, setInfeed_belt,
      setInduction_belt, setBelt_belt, setPosition_belt, BeltDrive.step]
  · simp only [forwardStep, reachTriggers, setLanes_tracking, setTracking_tracking,
      setBelt_tracking, setPosition_tracking, setPosition_position, Record.step_eq]
  · simp only [forwardStep, reachTriggers, setLanes_infeed, setTracking_infeed, setInfeed_infeed,
      setBelt_infeed, setPosition_infeed, setPosition_position,
      Infeed.step_eq]
  · simp only [forwardStep, reachTriggers, setLanes_induction, setTracking_induction,
      setInfeed_induction, setInduction_induction, setBelt_induction, setPosition_induction,
      setPosition_position, Induction.step_eq]
  · simp only [forwardStep, reachTriggers_lane, LaneUnit.step_eq, setPosition_position]
    rfl
  · simp only [forwardStep, reachTriggers, State.setLanes, State.setTracking,
      State.setInfeed, State.setInduction, State.setBelt, State.setPosition]

/-- Settles O9: by the equation of `backwardStep`; PHASE_ERROR's sample decodes to a phase error in every
quadrature mode. -/
theorem backwardStepsAndPhaseErrors : Obligations.BackwardStepsAndPhaseErrors := by
  refine ⟨fun s a b hs hdecode => ⟨_, rfl, ?_⟩, fun s hs hm => ?_⟩
  · rw [exec_encoderStep, takeSample_running hs, hdecode]
    simp only [backwardStep, BeltDrive.step, sub_eq_add_neg, State.setPosition, State.setBelt]
  · rw [exec_phaseError, takeSample_running hs, decode_both hm]
    rfl

/-! ## The sensor filter -/

theorem setSensor_setSensor (s : State) (i : SensorInput) (x y : SensorState) :
    (s.setSensor i x).setSensor i y = s.setSensor i y := by
  simp [State.setSensor, State.setPosition]

theorem acceptDue_of_not_due {s : State} {i : SensorInput}
    (h : (s.sensor i).candidate.all (fun c => !c.due) = true) : acceptDue i s = s := by
  unfold acceptDue
  cases hc : (s.sensor i).candidate with
  | none => rfl
  | some c =>
    have hdue : c.due = false := by simpa [hc] using h
    simp [hdue]

/-- A SENSOR_CHANGE with no candidate due meets the filter at the new pin level (R9). -/
theorem exec_sensorChange {s : State} (hs : s.resetHold = none) {i : SensorInput} (level : Bool)
    (h : (s.sensor i).candidate.all (fun c => !c.due) = true) :
    exec (.sensorChange i level) s =
      .next (filterLevel i level (s.setSensor i { s.sensor i with raw := level })) := by
  have hdue : acceptDue i (s.setSensor i { s.sensor i with raw := level }) =
      s.setSensor i { s.sensor i with raw := level } :=
    acceptDue_of_not_due (by rw [setSensor_sensor_same]; exact h)
  have hrun := whenRunning_running (s := s.setSensor i { s.sensor i with raw := level }) hs
    fun t => filterLevel i level (acceptDue i t)
  rw [hdue] at hrun
  exact congrArg Host.Outcome.next hrun

/-- Settles O10: by the cases of `filterLevel` at the sampled level. -/
theorem sensorFilterTakesLevels : Obligations.SensorFilterTakesLevels := by
  refine ⟨fun s i level hs hc => ?_, fun s i c hs hc hdue => ?_, fun s stamp => ⟨rfl, rfl⟩⟩
  · rw [exec_sensorChange hs level hc]
    unfold filterLevel
    simp only [setSensor_sensor_same, setSensor_setSensor, withSensor_eq]
    refine ⟨fun hl => ?_, fun hl hsome => ?_, fun hl hnone hpos => ?_, fun hl hnone hzero => ?_⟩
    · rw [if_pos hl]
    · obtain ⟨c, hc⟩ := Option.isSome_iff_exists.1 hsome
      rw [if_neg hl, hc]
    · rw [if_neg hl, hnone]
      exact congrArg Host.Outcome.next (if_neg (Nat.ne_of_gt hpos))
    · have hlevel : (!(s.sensor i).accepted) = level := (Bool.eq_not_of_ne hl).symm
      rw [if_neg hl, hnone]
      refine congrArg Host.Outcome.next ((if_pos hzero).trans ?_)
      rw [acceptEdge]
      simp only [setSensor_sensor_same, setSensor_setSensor, hlevel]
      rfl
  · have haccept : acceptDue i s = acceptEdge i c.stamp s := by
      unfold acceptDue
      simp [hc, hdue]
    refine ⟨acceptEdge i c.stamp s, ?_, ?_, ?_, rfl⟩
    · rw [← haccept]
      exact congrArg Host.Outcome.next (whenRunning_running hs _)
    · unfold acceptEdge
      simp only [handEdge_frame]
      rfl
    · simp only [acceptEdge_frame]

end Sys2Proof.Machine
end

section
/-! SUPPORT. Induction's edges and triggers (R30, R35 to R40). -/

namespace Sys2Proof.Machine

/-! ## Triggers -/

/-- A trigger at a position already reached is reached as it is armed (R7). -/
theorem armAt_of_not_ahead {s : State} {p : Word} (h : ¬ s.Ahead p) : armAt s p = .reached := by
  have hr : s.position.count.isReached p = true := by
    simpa [Word.isReached, State.Ahead] using h
  simp [armAt, hr]

theorem armAt_reached_iff (s : State) (p : Word) : armAt s p = .reached ↔ ¬ s.Ahead p := by
  by_cases h : s.Ahead p
  · simp [armAt_of_ahead h, h]
  · simp [armAt_of_not_ahead h, h]

theorem armJam_of_ahead {s : State} {p : Word} (h : s.Ahead p) :
    armJam p s =
      s.setInduction { s.induction with jamTrigger := some { pos := p, reached := false } } :=
  if_neg (by rw [armAt_reached_iff]; simpa using h)

theorem armJam_of_not_ahead {s : State} {p : Word} (h : ¬ s.Ahead p) : armJam p s = takeJam s :=
  if_pos ((armAt_reached_iff s p).2 h)

/-- The gap-release point that a stamp sets (R30). -/
def State.releasePoint (s : State) (stamp : Word) : Option Trigger :=
  if Word.diff s.position.count (stamp.plus s.line.releaseGap) < 0 then
    some { pos := stamp.plus s.line.releaseGap, reached := false }
  else none

theorem setGapRelease_eq (stamp : Word) (s : State) :
    setGapRelease stamp s = s.setInfeed { s.infeed with gapRelease := s.releasePoint stamp } := by
  unfold setGapRelease State.releasePoint
  dsimp only
  by_cases h : s.Ahead (stamp.plus s.line.releaseGap)
  · rw [if_neg (by rw [armAt_reached_iff]; simpa using h), if_pos (by exact h)]
  · rw [if_pos ((armAt_reached_iff s _).2 h), if_neg (by exact h)]

theorem releasePoint_isSome (s : State) (stamp : Word) : (s.releasePoint stamp).isSome =
    decide (Word.diff s.position.count (stamp.plus s.line.releaseGap) < 0) := by
  unfold State.releasePoint
  split
  · rename_i h; rw [decide_eq_true h]; rfl
  · rename_i h; rw [decide_eq_false h]; rfl

/-! ## The choice and the blocks it neither reads nor writes -/

/-- The choice writes the infeed's state and the events. -/
theorem chooseInfeed_eq (s : State) : chooseInfeed s =
    (s.setInfeed (chooseInfeed s).infeed).setEvents (chooseInfeed s).events := by
  refine State.ext_blocks ?_ ?_ ?_ ?_ ?_ ?_ ?_ ?_ ?_ ?_ ?_ ?_ ?_ ?_ ?_ <;> simp

theorem chooseInfeed_setInduction (s : State) (v : Induction) :
    chooseInfeed (s.setInduction v) = (chooseInfeed s).setInduction v := by
  unfold chooseInfeed
  dsimp only
  have hchoice : (s.setInduction v).infeedChoice = s.infeedChoice := rfl
  rw [hchoice, setInduction_infeed]
  simp only [handEvent_eq]
  split_ifs <;> rfl

/-! ## Edges and triggers of induction -/

theorem entryBlocked_clear {s : State} (stamp : Word) (h : s.induction.measurement = .clear) :
    entryBlocked stamp s = armJam (stamp.plus (s.line.maxLength + 1))
      (s.setInduction { s.induction with measurement := .measuring stamp }) := by
  unfold entryBlocked
  rw [h]

/-- A blockage that is not measured ends with no measurement (R37). -/
theorem endMeasurement_unmeasured {s : State} (stamp : Word)
    (h : s.induction.measurement = .jammed ∨ ∃ entered, s.induction.measurement = .unmeasured entered) :
    endMeasurement stamp s = endBlockage s := by
  unfold endMeasurement
  rcases h with h | ⟨entered, h⟩ <;> rw [h]

/-- Settles O11: by the cases of `armJam` and `entryClear`, and the rows of the three triggers. -/
theorem entryEyePositions : Obligations.EntryEyePositions := by
  refine ⟨fun s stamp hclear => ?_, fun s stamp hm => ?_, fun s p hs hj => ?_, fun s p hs hg => ?_,
    fun s hs ht => congrArg Host.Outcome.next (whenDue_due hs (by simp [ht]) _)⟩
  · have hblocked : handEdge .entryEye true stamp s = _ := entryBlocked_clear stamp hclear
    refine ⟨fun ha => ?_, fun ha => ?_⟩
    · rw [hblocked, armJam_of_ahead (by exact ha)]
      rfl
    · rw [hblocked, armJam_of_not_ahead (by exact ha)]
      rfl
  · have hclear : handEdge .entryEye false stamp s =
        chooseInfeed (setGapRelease stamp (endMeasurement stamp s)) := rfl
    rw [hclear, endMeasurement_unmeasured stamp hm, setGapRelease_eq]
    exact chooseInfeed_setInduction (s.setInfeed { s.infeed with gapRelease := s.releasePoint stamp }) _
  · exact congrArg Host.Outcome.next (whenDue_due hs (by simp [State.jamDue, hj]) _)
  · exact congrArg Host.Outcome.next (whenDue_due hs (by simp [State.gapDue, hg]) _)

/-! ## Lengths out of limits -/

theorem endMeasurement_measuring {s : State} {lead : Word} (stamp : Word)
    (h : s.induction.measurement = .measuring lead) :
    endMeasurement stamp s = checkLength lead stamp (endBlockage s) := by
  unfold endMeasurement
  rw [h]

theorem checkLength_short {s : State} {lead stamp : Word}
    (h : Word.diff stamp lead < s.line.minLength) :
    checkLength lead stamp s = faultOccur .shortItem none s := if_pos h

theorem checkLength_long {s : State} {lead stamp : Word}
    (hs : ¬ Word.diff stamp lead < s.line.minLength)
    (hl : (s.line.maxLength : Int) < Word.diff stamp lead) :
    checkLength lead stamp s = faultOccur .entryJam none s := (if_neg hs).trans (if_pos hl)

theorem checkLength_legal {s : State} {lead stamp : Word}
    (hs : (s.line.minLength : Int) ≤ Word.diff stamp lead)
    (hl : Word.diff stamp lead ≤ (s.line.maxLength : Int)) :
    checkLength lead stamp s = checkGap lead stamp (Word.diff stamp lead).toNat s :=
  (if_neg (Int.not_lt.2 hs)).trans (if_neg (Int.not_lt.2 hl))

/-- What an occurrence leaves of its own source. -/
theorem faultOccur_counted (f : FaultSource) (lane : Option LaneId) (s : State) :
    ((faultOccur f lane s).source f).latched = true ∧
      ((faultOccur f lane s).source f).count = min 255 ((s.source f).count + 1) := by
  rw [faultOccur_source, if_pos rfl]
  obtain ⟨hl, -, -, hc⟩ := SourceState.occurred_frame (s.source f) f.laneScoped lane
  exact ⟨hl, hc⟩

/-- The edge to clear leaves what induction left, but for the infeed and the events. -/
theorem entryClear_reads (stamp : Word) (s : State) :
    (entryClear stamp s).induction = (endMeasurement stamp s).induction ∧
      (entryClear stamp s).tracking = (endMeasurement stamp s).tracking ∧
      (entryClear stamp s).link = (endMeasurement stamp s).link ∧
      (entryClear stamp s).faults = (endMeasurement stamp s).faults := by
  simp [entryClear]

theorem entryClear_gapRelease (stamp : Word) (s : State) :
    (entryClear stamp s).infeed.gapRelease = s.releasePoint stamp := by
  rw [entryClear, setGapRelease_eq, chooseInfeed_infeed]
  simp [State.releasePoint]

/-- Settles O12: a length out of limits ends in one occurrence, which leaves induction as the blockage's
end did. -/
theorem wrongLengthIsDiscarded : Obligations.WrongLengthIsDiscarded := by
  intro s lead stamp hm
  obtain ⟨hind, -, -, hfaults⟩ := entryClear_reads stamp s
  have hread (f : FaultSource) := source_congr hfaults f
  rw [endMeasurement_measuring stamp hm] at hind hread
  show (entryClear stamp s).infeed.gapRelease.isSome = _ ∧ _
  refine ⟨by rw [entryClear_gapRelease, releasePoint_isSome], fun hshort => ?_, fun hlong hle => ?_⟩
  · rw [checkLength_short (by exact hshort)] at hind hread
    refine ⟨hind.trans ?_, ?_⟩
    · rw [(faultOccur_frame _ _ _).2.2.2.2.2.1]; rfl
    · rw [show (handEdge .entryEye false stamp s).source .shortItem = _ from hread _]
      exact faultOccur_counted .shortItem none (endBlockage s)
  · have hnot : ¬ Word.diff stamp lead < s.line.minLength := by omega
    rw [checkLength_long (by exact hnot) (by exact hlong)] at hind hread
    refine ⟨hind.trans ?_, ?_⟩
    · rw [(faultOccur_frame _ _ _).2.2.2.2.2.1]; rfl
    · rw [show (handEdge .entryEye false stamp s).source .entryJam = _ from hread _]
      exact faultOccur_counted .entryJam none (endBlockage s)

end Sys2Proof.Machine
end

section
/-! SUPPORT. The belt drive's rows and commands, and INFEED_SET (R15 to R26, R27, R33). -/

namespace Sys2Proof.Machine

/-! ## The tick -/

theorem chooseInfeed_setBelt {s : State} {v : BeltDrive} (h : v.state = s.belt.state) :
    chooseInfeed (s.setBelt v) = (chooseInfeed s).setBelt v := by
  have hchoice : (s.setBelt v).infeedChoice = s.infeedChoice :=
    infeedChoice_congr rfl rfl rfl rfl rfl rfl rfl h
  unfold chooseInfeed
  dsimp only
  rw [hchoice, setBelt_infeed]
  simp only [handEvent_eq]
  split_ifs <;> rfl

theorem handEvent_setBelt (p : EventPair) (pos : Word) (s : State) (v : BeltDrive) :
    handEvent p pos (s.setBelt v) = (handEvent p pos s).setBelt v := by
  simp only [handEvent_eq]
  rfl

/-- The belt drive once its deviation is watched (R25). -/
def BeltDrive.watched (b : BeltDrive) : BeltDrive :=
  if b.state.deviationWatched then
    { b with deviation := b.newDeviation, slipAbove := b.aboveLimit }
  else b

/-- The belt drive as a tick leaves it, AT_SPEED and BELT_SLIP apart (R16, R17, R25, R26). -/
def BeltDrive.ticked (b : BeltDrive) : BeltDrive :=
  ({ b.tick with state := if b.tick.atTarget then .run else b.tick.state } : BeltDrive).watched

/-- The tick's timers and values, before it hands AT_SPEED and BELT_SLIP on. -/
def State.ticked (s : State) : State := (tickTimers s).setBelt s.belt.ticked

theorem BeltDrive.tick_slipAbove (b : BeltDrive) : b.tick.slipAbove = b.slipAbove := by
  unfold BeltDrive.tick BeltDrive.tickStandstill BeltDrive.tickStall
  dsimp only
  split
  · rfl
  · split <;> rfl

theorem watchSlip_eq (s : State) : watchSlip s =
    if s.belt.state.deviationWatched && s.belt.aboveLimit && !s.belt.slipAbove then
      faultOccur .beltSlip none (s.setBelt s.belt.watched)
    else s.setBelt s.belt.watched := by
  unfold watchSlip BeltDrive.watched
  cases s.belt.state.deviationWatched
  · rfl
  · rw [Bool.true_and]
    rfl

/-- AT_SPEED is handed on and the infeed told where the reference reached the target (R16). -/
def State.toldAtSpeed (s : State) (b : Bool) : State :=
  if b then chooseInfeed (handEvent (.line .atSpeed) s.position.count s) else s

/-- The tick writes its values first, then hands AT_SPEED on, then BELT_SLIP. -/
theorem tick_eq (s : State) : tick s =
    let v := s.ticked.toldAtSpeed s.belt.tick.atTarget
    if s.belt.ticked.state.deviationWatched && s.belt.tick.aboveLimit && !s.belt.slipAbove then
      faultOccur .beltSlip none v
    else v := by
  have hreach : reachTarget ((tickTimers s).setBelt s.belt.tick) =
      ((tickTimers s).setBelt { s.belt.tick with
        state := if s.belt.tick.atTarget then .run else s.belt.tick.state }).toldAtSpeed
          s.belt.tick.atTarget := by
    unfold reachTarget State.toldAtSpeed
    rw [setBelt_belt]
    cases s.belt.tick.atTarget <;> rfl
  have hwatched (b : BeltDrive) : b.watched.state = b.state := by
    unfold BeltDrive.watched
    split <;> rfl
  have htold (u : State) (b : Bool) (v : BeltDrive) (hv : v.state = u.belt.state) :
      (u.toldAtSpeed b).setBelt v = (u.setBelt v).toldAtSpeed b := by
    cases b
    · rfl
    · refine (chooseInfeed_setBelt (s := handEvent (.line .atSpeed) u.position.count u)
        (by rw [hv]; simp)).symm.trans ?_
      rw [← handEvent_setBelt]
      rfl
  have hbelt (u : State) (b : Bool) : (u.toldAtSpeed b).belt = u.belt := by
    cases b
    · rfl
    · simp [State.toldAtSpeed]
  unfold tick
  dsimp only
  rw [show (tickTimers s).belt = s.belt from rfl, hreach, watchSlip_eq, hbelt, setBelt_belt,
    htold _ _ _ (by rw [hwatched]; rfl)]
  have hset : ((tickTimers s).setBelt { s.belt.tick with
      state := if s.belt.tick.atTarget then .run else s.belt.tick.state }).setBelt
        s.belt.ticked = s.ticked := rfl
  rw [show BeltDrive.watched _ = s.belt.ticked from rfl, hset,
    show s.belt.ticked.state = _ from hwatched _]
  rw [show BeltDrive.aboveLimit { s.belt.tick with
      state := if s.belt.tick.atTarget then .run else s.belt.tick.state } =
        s.belt.tick.aboveLimit from rfl]
  dsimp only
  rw [BeltDrive.tick_slipAbove]

theorem BeltDrive.atTarget_eq (b : BeltDrive) : b.atTarget =
    decide ((b.state = .accel ∨ b.state = .slow) ∧ b.reference = 1000 * b.target) := by
  rw [Bool.eq_iff_iff]
  simp only [BeltDrive.atTarget, BeltDrive.targetThousandths, Bool.and_eq_true, Bool.or_eq_true,
    decide_eq_true_eq]
  exact and_congr_right fun _ => decide_eq_true_iff

theorem BeltDrive.aboveLimit_eq (b : BeltDrive) : b.aboveLimit =
    decide (0 < b.deviationLimit ∧ b.deviationLimit < b.newDeviation.natAbs) := by
  simp [BeltDrive.aboveLimit]

theorem LaneUnit.tick_eq (u : LaneUnit) : u.tick = { u with
    phaseTimer := if u.phase = .retract ∨ u.phase = .settle then min 255 (u.phaseTimer + 1)
      else u.phaseTimer
    fullTimer := u.fullTimer.map fun n => min 2000 (n + 1)
    fullDue := u.fullDue || u.fullTimer.any fun n =>
      decide (u.geometry.fullDelay ≤ min 2000 (n + 1))
    jamTimer := u.jamTimer.map fun n => min 10000 (n + 1)
    jamDue := u.jamDue || u.jamTimer.any fun n =>
      decide (u.geometry.jamTime ≤ min 10000 (n + 1)) } := by
  unfold LaneUnit.tick
  dsimp only
  rw [Option.any_map, Option.any_map]
  rfl

theorem ticked_count (s : State) : s.ticked.position.count = s.position.count := by
  show (s.position.tick s.line.filterTime).count = _
  unfold PositionUnit.tick PositionUnit.tickSpeed
  split <;> rfl

/-- The values of a tick, one by one (R16, R17, R26). -/
theorem BeltDrive.tick_eq (b : BeltDrive) : b.tick = { b with
    reference := b.rampedReference
    referenceTravel := (b.referenceTravel + b.rampedReference) % travelModulus
    stallTimer := if b.rampedReference = 0 then 0
      else if b.state.stallWatched then min 2000 (b.stallTimer + 1) else b.stallTimer
    stallRaised := decide (b.rampedReference ≠ 0) && b.stallRaised
    standstillTimer := min 100 (b.standstillTimer + 1) } := by
  have hr : b.ramp.reference = b.rampedReference := rfl
  have hs : b.ramp.state = b.state := rfl
  unfold BeltDrive.tick BeltDrive.tickStandstill BeltDrive.tickStall
  rw [hr, hs]
  by_cases h : b.rampedReference = 0
  · rw [if_pos h, if_pos h, decide_eq_false (not_not.2 h), Bool.false_and]
    rfl
  · rw [if_neg h, if_neg h, decide_eq_true h, Bool.true_and]
    cases b.state.stallWatched <;> rfl

theorem BeltState.watched_eq (x : BeltState) :
    x.deviationWatched = decide (x ≠ .stopped ∧ x ≠ .brake) ∧
      x.stallWatched = decide (x ≠ .stopped ∧ x ≠ .brake) := by
  cases x <;> exact ⟨rfl, rfl⟩

/-- Coming to RUN, a watched belt stays watched. -/
theorem BeltDrive.atTarget_watched (b : BeltDrive) :
    (if b.atTarget then BeltState.run else b.state).deviationWatched = b.state.deviationWatched := by
  split
  · rename_i h
    unfold BeltDrive.atTarget at h
    cases hb : b.state <;> simp_all [BeltState.deviationWatched]
  · rfl

theorem BeltDrive.ticked_eq (b : BeltDrive) : b.ticked = { b.tick with
    state := if b.tick.atTarget then .run else b.state
    deviation := if b.state.deviationWatched then b.tick.newDeviation else b.deviation
    slipAbove := if b.state.deviationWatched then b.tick.aboveLimit else b.slipAbove } := by
  have hstate : b.tick.state = b.state := by rw [BeltDrive.tick_eq]
  have hdev : b.tick.deviation = b.deviation := by rw [BeltDrive.tick_eq]
  have hslip := b.tick_slipAbove
  unfold BeltDrive.ticked BeltDrive.watched
  dsimp only
  rw [BeltDrive.atTarget_watched, hstate]
  generalize b.tick = c at hdev hslip
  rw [← hdev, ← hslip]
  cases b.state.deviationWatched <;> rfl

theorem BeltDrive.ticked_watched (b : BeltDrive) :
    b.ticked.state.deviationWatched = b.state.deviationWatched := by
  have hstate : b.tick.state = b.state := by rw [BeltDrive.tick_eq]
  rw [BeltDrive.ticked_eq]
  dsimp only
  rw [← hstate, BeltDrive.atTarget_watched]

/-- Settles O15: `tick_eq` with the values of each block. -/
theorem tickRampsAndCounts : Obligations.TickRampsAndCounts := by
  refine ⟨fun s hs => ?_, fun s hs hdue => congrArg Host.Outcome.next (whenDue_due hs hdue _)⟩
  obtain ⟨hdev, hstall⟩ := BeltState.watched_eq s.belt.state
  intro reference travel deviation above moving atTarget
  have hatTarget : s.belt.tick.atTarget = atTarget := by
    rw [BeltDrive.atTarget_eq, BeltDrive.tick_eq]
    rfl
  have habove : s.belt.tick.aboveLimit = above := by
    rw [BeltDrive.aboveLimit_eq, BeltDrive.tick_eq]
    rfl
  have hdeviation : s.belt.tick.newDeviation = deviation := by
    rw [BeltDrive.tick_eq]
    rfl
  refine ⟨s.ticked, ?_, ?_, fun i => ?_, fun l => ?_, rfl, ?_, ?_, ?_⟩
  · show s.belt.ticked = _
    rw [BeltDrive.ticked_eq, hatTarget, habove, hdeviation, hdev, BeltDrive.tick_eq, hstall]
    rfl
  · show { s.position.tick s.line.filterTime with sensors := s.position.sensors } = _
    unfold PositionUnit.tick PositionUnit.tickSpeed
    split <;> rfl
  · show (s.position.tick s.line.filterTime).sensors[i] = _
    simp [PositionUnit.tick, Candidate.tick]
  · refine Eq.trans ?_ (s.lane l).tick_eq
    show (Vector.ofFn fun i : Fin 16 => s.lanes[i].tick)[l] = _
    simp [State.lane]
  · show { s.link with receiver := s.link.receiver.tick } = _
    cases s.link.receiver <;> rfl
  · rfl
  · refine (congrArg Host.Outcome.next ((whenRunning_running hs tick).trans (tick_eq s))).trans ?_
    dsimp only
    rw [BeltDrive.ticked_watched, hdev, habove, hatTarget, State.toldAtSpeed, ticked_count]

end Sys2Proof.Machine
end

section
/-! SUPPORT. Standstill and stall, BELT_START, INFEED_SET and LINE_CONFIG (R11, R17 to R21, R26, R33,
R46, R47). -/

namespace Sys2Proof.Machine

/-! ## Standstill and stall -/

/-- Settles O16: the rows are due by their timers, and the stall's mark lets one occurrence through. -/
theorem standstillAndStall : Obligations.StandstillAndStall := by
  refine ⟨fun s hs hstate htimer => ?_, fun s hs htime hreached href hmoving =>
    ⟨fun hraised => ?_, fun hraised => ?_⟩⟩
  · refine congrArg Host.Outcome.next (whenDue_due hs ?_ _)
    simpa [BeltDrive.standstillDue, htimer, Config.standstillTime] using hstate
  · refine congrArg Host.Outcome.next (whenDue_due hs ?_ _)
    have hwatched : s.belt.state.stallWatched = true := by
      rw [(BeltState.watched_eq _).2, decide_eq_true_eq]
      exact hmoving
    simp [BeltDrive.stallDue, htime, hreached, hraised, hwatched, href]
  · exact congrArg Host.Outcome.next (whenDue_not_due (by simp [BeltDrive.stallDue, hraised]) _)

/-! ## BELT_START -/

theorem orElse_eq_none {α : Type} (a b : Option α) :
    (a <|> b) = none ↔ a = none ∧ b = none := by
  cases a <;> simp

theorem checkDecisionLength_none (s : State) :
    s.checkDecisionLength = none ↔ s.line.maxLength ≤ s.line.decision := by
  simp [State.checkDecisionLength]

/-- No lane that counts as open fails a test exactly where every such lane meets it. -/
theorem find_open_none (s : State) (p : LaneId → Bool) :
    (allLanes.find? fun l => (s.lane l).enabledOrDraining && !p l) = none ↔
      ∀ l : LaneId, (s.lane l).state = .enabled ∨ (s.lane l).state = .draining → p l = true := by
  simp [allLanes, LaneUnit.enabledOrDraining]

theorem checkFireDistance_none (s : State) : s.checkFireDistance = none ↔
    ∀ l : LaneId, (s.lane l).state = .enabled ∨ (s.lane l).state = .draining →
      s.line.decision < (s.lane l).geometry.fireDistance := by
  unfold State.checkFireDistance
  rw [Option.map_eq_none_iff, find_open_none]
  simp only [State.fireDistanceOk, decide_eq_true_eq]

theorem checkConfirmClose_none (s : State) : s.checkConfirmClose = none ↔
    ∀ l : LaneId, (s.lane l).state = .enabled ∨ (s.lane l).state = .draining →
      (s.lane l).geometry.fireDistance + (s.lane l).geometry.confirmClose < s.line.runout := by
  unfold State.checkConfirmClose
  rw [Option.map_eq_none_iff, find_open_none]
  simp only [State.confirmCloseOk, decide_eq_true_eq]

theorem checkRejectLane_none (s : State) : s.checkRejectLane = none ↔
    ∀ l : LaneId, s.line.rejectLane = some l → (s.lane l).configured = true := by
  unfold State.checkRejectLane
  cases s.line.rejectLane <;> simp

theorem checkFallback_none (s : State) (g : Fin 8) : s.checkFallback g = none ↔
    ∀ l ∈ s.members g, (s.lane l).configured = true := by
  simp [State.checkFallback]

theorem checkFallbacks_none (s : State) : s.checkFallbacks = none ↔
    ∀ (g : Fin 8) (l : LaneId),
      s.line.noRead = some g ∨ s.line.noRoute = some g ∨ s.line.overflow = some g →
      l ∈ s.members g → (s.lane l).configured = true := by
  have hbind (x : Option (Fin 8)) : x.bind s.checkFallback = none ↔
      ∀ g, x = some g → ∀ l ∈ s.members g, (s.lane l).configured = true := by
    cases x with
    | none => simp
    | some g => simp [checkFallback_none]
  unfold State.checkFallbacks
  simp only [List.findSome?_eq_none_iff, List.mem_cons, List.not_mem_nil, or_false,
    forall_eq_or_imp, forall_eq, hbind]
  exact ⟨fun ⟨h1, h2, h3⟩ g l hg hl => hg.elim (fun h => h1 g h l hl) fun hg =>
      hg.elim (fun h => h2 g h l hl) fun h => h3 g h l hl,
    fun h => ⟨fun g hg l => h g l (.inl hg), fun g hg l => h g l (.inr (.inl hg)),
      fun g hg l => h g l (.inr (.inr hg))⟩⟩

theorem exec_beltStart {s : State} {f : Frame} {speed : Nat} (h : s.Ready f) (hk : f.kind = 0x11)
    (hp : parseSpeed f.payload = some speed) :
    exec .beltStart s = .next (answerBeltStart speed f s.taken) :=
  congrArg Host.Outcome.next (onCommand_ready h hk hp)

theorem taken_configurationCheck (s : State) :
    s.taken.configurationCheck = s.configurationCheck := rfl

/-- Settles O18: by the order of the tests in `answerBeltStart`, and each item of the check. -/
theorem beltStartChecksInOrder : Obligations.BeltStartChecksInOrder := by
  refine ⟨fun s f speed h hk hp => ?_, fun s => ?_⟩
  · rw [exec_beltStart h hk hp]
    unfold answerBeltStart
    rw [taken_stoppingFault, taken_configurationCheck]
    refine ⟨fun hb => ?_, fun hb hf => ?_, fun hb hf => ⟨fun c hc => ?_, fun hc => ?_⟩⟩
    · rw [if_pos (by exact hb)]; rfl
    · rw [if_neg (by simpa using hb), if_pos hf]; rfl
    · rw [if_neg (by simpa using hb), if_neg (by simp [hf]), hc]; rfl
    · rw [if_neg (by simpa using hb), if_neg (by simp [hf]), hc]; rfl
  · unfold State.configurationCheck
    simp only [orElse_eq_none, checkDecisionLength_none, checkFireDistance_none,
      checkConfirmClose_none, checkRejectLane_none, checkFallbacks_none]
    exact ⟨fun ⟨h1, h2, h3, h4, h5⟩ => ⟨h1, fun l hl => ⟨h2 l hl, h3 l hl⟩, h4, h5⟩,
      fun ⟨h1, h2, h4, h5⟩ => ⟨h1, fun l hl => (h2 l hl).1, fun l hl => (h2 l hl).2, h4, h5⟩⟩

/-! ## INFEED_SET -/

theorem parseEnable_flagByte (on : Bool) : parseEnable [flagByte on] = some on := by
  cases on <;> decide

/-- Settles O20: by the equation of the choice. -/
theorem infeedSetChoosesState : Obligations.InfeedSetChoosesState := by
  refine ⟨fun s f on h hk hp => ?_, fun s => ?_⟩
  · refine ⟨replyOk f [(setInfeedEnable on s.taken).infeed.state.code] (setInfeedEnable on s.taken),
      congrArg Host.Outcome.next (onCommand_ready h hk (by rw [hp]; exact parseEnable_flagByte on)),
      ?_, ?_, ?_, ?_, ?_⟩
    · simp [replyOk, setInfeedEnable, chooseInfeed_infeed]
    · show (setInfeedEnable on s.taken).infeed.state = _
      rw [setInfeedEnable, chooseInfeed_infeed]
      rfl
    · have hlink : (setInfeedEnable on s.taken).link = s.taken.link := by simp [setInfeedEnable]
      show (setInfeedEnable on s.taken).link.replies ++ _ = _
      rw [hlink, replyKind, hk]
      rfl
    · have hlink : (setInfeedEnable on s.taken).link = s.taken.link := by simp [setInfeedEnable]
      show (setInfeedEnable on s.taken).link.commands = _
      rw [hlink]
      rfl
    · refine State.ext_blocks ?_ ?_ ?_ ?_ ?_ ?_ ?_ ?_ ?_ ?_ ?_ ?_ ?_ ?_ ?_ <;>
        simp [replyOk, setInfeedEnable]
  · unfold chooseInfeed
    simp only [and_comm]
    rfl

/-! ## LINE_CONFIG -/

/-- A sensor input whose candidate, if it has one, is accepted (R11). -/
def SensorState.acceptedNow (x : SensorState) : SensorState :=
  { x with accepted := x.accepted ^^ x.candidate.isSome, candidate := none }

theorem SensorState.acceptedNow_twice (x : SensorState) :
    x.acceptedNow.acceptedNow = x.acceptedNow := by
  simp [SensorState.acceptedNow]

theorem SensorState.acceptedNow_of_none {x : SensorState} (h : x.candidate = none) :
    x.acceptedNow = x := by
  cases x
  simp_all [SensorState.acceptedNow]

theorem SensorState.acceptedNow_of_some {x : SensorState} {c : Candidate}
    (h : x.candidate = some c) :
    x.acceptedNow = { x with accepted := !x.accepted, candidate := none } := by
  simp [SensorState.acceptedNow, h]

/-- One input's standing candidate is accepted (R11). -/
def acceptOne (i : SensorInput) (s : State) : State :=
  match (s.sensor i).candidate with
  | some c => acceptEdge i c.stamp s
  | none => s

theorem acceptAll_eq (s : State) :
    acceptAll s = SensorInput.all.foldl (fun t i => acceptOne i t) s := rfl

/-- What accepting one input's candidate leaves of each input. -/
theorem acceptOne_sensors (i : SensorInput) (s : State) (j : Fin 34) :
    (acceptOne i s).position.sensors[j] =
    if j = i.idx then s.position.sensors[j].acceptedNow else s.position.sensors[j] := by
  unfold acceptOne
  cases hc : (s.sensor i).candidate with
  | none =>
    dsimp only
    split
    · subst_vars
      exact (SensorState.acceptedNow_of_none hc).symm
    · rfl
  | some c =>
    have hpos : (acceptEdge i c.stamp s).position = (s.setSensor i { s.sensor i with
        accepted := !(s.sensor i).accepted, candidate := none }).position := by
      unfold acceptEdge
      simp only [handEdge_frame]
    dsimp only
    rw [hpos]
    split
    · subst_vars
      refine Eq.trans ?_ (SensorState.acceptedNow_of_some hc).symm
      simp [State.setSensor, State.sensor]
    · rename_i hne
      have hval : i.idx.val ≠ j.val := fun e => hne (Fin.ext e.symm)
      simp [State.setSensor, hval]

theorem acceptEach_sensors (is : List SensorInput) (s : State) (j : Fin 34) :
    (is.foldl (fun t i => acceptOne i t) s).position.sensors[j] =
    if j ∈ is.map SensorInput.idx then s.position.sensors[j].acceptedNow
    else s.position.sensors[j] := by
  induction is generalizing s with
  | nil => simp
  | cons i is ih =>
    rw [List.foldl_cons, ih, acceptOne_sensors]
    by_cases hj : j = i.idx <;> by_cases hm : j ∈ is.map SensorInput.idx <;>
      simp [hj, hm, SensorState.acceptedNow_twice]

theorem mem_all_idx (j : Fin 34) : j ∈ SensorInput.all.map SensorInput.idx := by
  revert j; decide

theorem acceptAll_sensors (s : State) (j : Fin 34) :
    (acceptAll s).position.sensors[j] = s.position.sensors[j].acceptedNow := by
  rw [acceptAll_eq, acceptEach_sensors, if_pos (mem_all_idx j)]

theorem rearmJam_of_rest {s : State}
    (h : s.induction.measurement = .clear ∨ s.induction.measurement = .jammed) :
    rearmJam s = s := by
  unfold rearmJam
  rcases h with h | h <;> rw [h]

theorem rearmJam_of_blocked {s : State} {lead : Word}
    (h : s.induction.measurement = .measuring lead ∨ s.induction.measurement = .unmeasured lead) :
    rearmJam s = armJam (lead.plus (s.line.maxLength + 1)) s := by
  unfold rearmJam
  rcases h with h | h <;> rw [h]

theorem exec_lineConfig {s : State} {f : Frame} {c : LineConfig} (h : s.Ready f)
    (hk : f.kind = 0x08) (hp : parseLineConfig f.payload = some c) :
    exec .lineConfig s = .next (if s.taken.belt.state = .stopped
      then replyOk f c.bytes (applyLineConfig c s.taken)
      else replyTo f .badState [] s.taken) :=
  congrArg Host.Outcome.next (onCommand_ready h hk hp)

theorem applyLineConfig_position (c : LineConfig) (s : State) :
    (applyLineConfig c s).position =
      (if c.filterTime = 0 then acceptAll (s.setLine c) else s.setLine c).position := by
  simp [applyLineConfig]

/-- Settles O14: by the cases of `rearmJam`; with a filter time of 0 each input's candidate is accepted in
turn. -/
theorem lineConfigTakesEffect : Obligations.LineConfigTakesEffect := by
  intro s f c h hk hp
  rw [exec_lineConfig h hk hp]
  refine ⟨fun hb => congrArg Host.Outcome.next (if_neg hb), fun hb => ?_⟩
  rw [if_pos (by exact hb)]
  refine ⟨⟨_, rfl, ?_, ?_, fun hzero i => ?_⟩, fun hpos => ?_⟩
  · show (applyLineConfig c s.taken).line = c
    unfold applyLineConfig
    dsimp only
    split <;> simp
  · show ((applyLineConfig c s.taken).link.replies ++ [_]).getLast? = _
    rw [List.getLast?_concat, replyKind, hk]
    rfl
  · show (applyLineConfig c s.taken).position.sensors[i] = _
    rw [applyLineConfig_position, if_pos hzero, acceptAll_sensors]
    rfl
  · have happly : applyLineConfig c s.taken = chooseInfeed (rearmJam (s.taken.setLine c)) :=
      congrArg (fun t => chooseInfeed (rearmJam t)) (if_neg (Nat.ne_of_gt hpos))
    rw [happly]
    refine ⟨fun hm => ?_, fun lead hm => ⟨fun ha => ?_, fun ha => ?_⟩⟩
    · rw [rearmJam_of_rest (by exact hm)]
      rfl
    · rw [rearmJam_of_blocked (by exact hm), armJam_of_ahead (by exact ha)]
      rfl
    · rw [rearmJam_of_blocked (by exact hm), armJam_of_not_ahead (by exact ha)]
      rfl

end Sys2Proof.Machine
end

section
/-! SUPPORT. The selector's choice by case (R100 to R109). -/

namespace Sys2Proof.Machine

/-! ## The tries -/

theorem groupTry_eq (s : State) (lead : Word) (g : Fin 8) (reason : Reason)
    (route : Option (Fin 32)) : s.groupTry lead g reason route =
      match s.search lead g with
      | some l => { lane := some l, reason, route, group := some g }
      | none => s.overflowTry lead route := rfl

theorem overflowTry_found {s : State} {lead : Word} {g : Fin 8} {l : LaneId}
    (hg : s.line.overflow = some g) (hl : s.search lead g = some l) (route : Option (Fin 32)) :
    s.overflowTry lead route = { lane := some l, reason := .overflow, route, group := some g } := by
  unfold State.overflowTry
  simp [hg, hl]

/-- Where the overflow group finds no lane the reject lane is the last try (R108). -/
theorem overflowTry_not_found {s : State} {lead : Word}
    (h : ∀ g : Fin 8, s.line.overflow = some g → s.search lead g = none)
    (route : Option (Fin 32)) : s.overflowTry lead route = s.rejectTry lead route := by
  unfold State.overflowTry
  cases hg : s.line.overflow with
  | none => rfl
  | some g => simp [h g hg]

theorem rejectTry_accepted {s : State} {lead : Word} {l : LaneId}
    (hl : s.line.rejectLane = some l) (ha : s.offerAccepted lead l = true)
    (route : Option (Fin 32)) :
    s.rejectTry lead route = { lane := some l, reason := .reject, route, group := none } := by
  unfold State.rejectTry
  simp [hl, ha]

theorem rejectTry_refused {s : State} {lead : Word}
    (h : ∀ l : LaneId, s.line.rejectLane = some l → s.offerAccepted lead l = false)
    (route : Option (Fin 32)) :
    s.rejectTry lead route = { lane := none, reason := .overflow, route, group := none } := by
  unfold State.rejectTry
  cases hl : s.line.rejectLane with
  | none => rfl
  | some l => simp [h l hl]

/-! ## The selector -/

theorem select_direct {s : State} {r : Record} {l : LaneId} (h : r.directLane = some l) :
    s.select r = s.laneTry r.lead l .direct none := by
  unfold State.select
  rw [h]

theorem select_straight {s : State} {r : Record} {l : LaneId} (h : r.directLane = none)
    (hs : s.shortGapLane r.shortGap = some l) : s.select r = s.shortGapTry r.lead l := by
  unfold State.select
  rw [h, hs]

theorem select_unkeyed {s : State} {r : Record} (h : r.directLane = none)
    (hs : s.shortGapLane r.shortGap = none) (hk : r.key = none) :
    s.select r = s.fallbackTry r.lead s.line.noRead .noRead := by
  unfold State.select
  rw [h, hs, hk]

theorem select_keyed {s : State} {r : Record} {k : Key} (h : r.directLane = none)
    (hs : s.shortGapLane r.shortGap = none) (hk : r.key = some k) :
    s.select r = s.keyTry r.lead k := by
  unfold State.select
  rw [h, hs, hk]

/-- An item is not sent straight to the reject lane unless its gap was short, GAP_SHORT's class is RECOVER
and there is a reject lane (R104). -/
theorem shortGapLane_none {s : State} {short : Bool}
    (h : ¬ (short = true ∧ (s.source .gapShort).cls = .recover ∧ s.line.rejectLane.isSome = true)) :
    s.shortGapLane short = none := by
  unfold State.shortGapLane
  split
  · rename_i hc
    cases hl : s.line.rejectLane with
    | none => rfl
    | some l => exact absurd ⟨hc.1, hc.2, by rw [hl]; rfl⟩ h
  · rfl

theorem keyTry_unmatched {s : State} {k : Key} (lead : Word)
    (h : s.routes.lookup k s.routes.plan = none) :
    s.keyTry lead k = s.fallbackTry lead s.line.noRoute .noRoute := by
  unfold State.keyTry
  rw [h]

theorem keyTry_matched {s : State} {k : Key} {i : Fin 32} (lead : Word)
    (h : s.routes.lookup k s.routes.plan = some i) : s.keyTry lead k = s.targetTry lead i := by
  unfold State.keyTry
  rw [h]

/-- Settles O23: by the order of the tries. -/
theorem selectionByCase : Obligations.SelectionByCase := by
  intro s r found straight
  refine ⟨fun l hl => select_direct hl, fun hd hstraight l hl => ?_, fun hd hnot => ?_,
    fun route => ⟨fun g l hg hl => overflowTry_found hg hl route, fun hnone => ?_⟩⟩
  · refine select_straight hd ?_
    rw [State.shortGapLane, if_pos ⟨hstraight.1, hstraight.2.1⟩, hl]
  · have hs := shortGapLane_none hnot
    refine ⟨fun hk hn => ?_, fun g hk hn => ?_, fun k hk => ⟨fun hlook hn => ?_,
      fun g hlook hn => ?_, fun i hlook => ⟨fun l ht => ?_, fun g ht => ?_⟩⟩⟩
    · rw [select_unkeyed hd hs hk, hn]; rfl
    · rw [select_unkeyed hd hs hk, hn]; rfl
    · rw [select_keyed hd hs hk, keyTry_unmatched _ hlook, hn]; rfl
    · rw [select_keyed hd hs hk, keyTry_unmatched _ hlook, hn]; rfl
    · rw [select_keyed hd hs hk, keyTry_matched _ hlook, State.targetTry, ht]; rfl
    · rw [select_keyed hd hs hk, keyTry_matched _ hlook, State.targetTry, ht]; rfl
  · rw [overflowTry_not_found hnone]
    exact ⟨fun l hl ha => rejectTry_accepted hl ha route, fun h => rejectTry_refused h route⟩

end Sys2Proof.Machine
end

section
/-! SUPPORT. Fates, run-outs and departures (R63 to R71, R137 to R140). -/

namespace Sys2Proof.Machine

/-- A run-out point already reached gives the item its fate at once (R64). -/
theorem enterRunout_of_not_ahead {s : State} {before after : List Record} {r : Record}
    (h : s.ListHolds before r after) (reason : Reason) (ha : ¬ s.Ahead r.runoutPoint) :
    enterRunout r.item reason s = giveFate r.item .passedEnd none
      (s.withList (before ++ { r with
        state := .runout, reason := some reason, lane := none, firePos := none
        runoutArm := .reached } :: after)) := by
  rw [enterRunout, tracked_of_listHolds h]
  simp only [armAt_of_not_ahead ha]
  rw [if_pos trivial, modifyRecord_of_listHolds h]
  rfl

/-- The fences told, and the replies of those that are done (R139, R140). -/
theorem fenceNotice_eq (item : Nat) (s : State) :
    let told := s.tracking.fences.map fun e => { e with
      remaining := if atOrBefore item e.boundary then e.remaining - 1 else e.remaining }
    fenceNotice item s = { s with
      tracking := { s.tracking with fences := told.filter fun e => e.remaining ≠ 0 }
      link := { s.link with replies := s.link.replies ++
        (told.filter fun e => e.remaining = 0).map fun e =>
          { kind := 0xA5, tag := e.tag, status := .ok
            fields := e.scope.code :: (leBytes 2 e.boundary ++ [byteOf e.covered, 0]) } } } := by
  have hdepart : (fun e : Fence => e.depart item) = fun e => { e with
      remaining := if atOrBefore item e.boundary then e.remaining - 1 else e.remaining } := by
    funext e
    unfold Fence.depart
    split <;> rfl
  intro told
  have hreply : (told.filter fun e => e.remaining = 0).map (fun e => e.reply .ok) =
      (told.filter fun e => e.remaining = 0).map fun e =>
        { kind := 0xA5, tag := e.tag, status := .ok
          fields := e.scope.code :: (leBytes 2 e.boundary ++ [byteOf e.covered, 0]) } := by
    refine List.map_congr_left fun e he => ?_
    have hzero : e.remaining = 0 := by simpa using (List.mem_filter.1 he).2
    rw [Fence.reply, hzero]
    rfl
  unfold fenceNotice
  rw [hdepart, ← hreply]
  rfl

/-- Up to 63 steps along the numbers 1 to 65535 lead from an item to a boundary at or after it (R137). -/
theorem atOrBefore_iff {item boundary : Nat} (h1 : 1 ≤ item) (h2 : item ≤ 65535)
    (h3 : 1 ≤ boundary) (h4 : boundary ≤ 65535) :
    atOrBefore item boundary = true ↔ ∃ k ≤ 63, (item - 1 + k) % 65535 + 1 = boundary := by
  rw [atOrBefore, decide_eq_true_eq]
  constructor
  · exact fun h => ⟨(boundary + 65535 - item) % 65535, h, by omega⟩
  · rintro ⟨k, hk, hb⟩
    omega

/-- Settles O25: by the equations of a fate, a run-out and a departure. -/
theorem runoutPassesTheEnd : Obligations.RunoutPassesTheEnd := by
  refine ⟨fun s before after r fate offset h => giveFate_of_listHolds h fate offset,
    fun s before after r hs h hstate harm => ?_,
    fun s before after r reason h => ⟨enterRunout_of_listHolds h reason,
      enterRunout_of_not_ahead h reason⟩,
    fun s item => fenceNotice_eq item s, fun item boundary => atOrBefore_iff⟩
  refine congrArg Host.Outcome.next (whenDue_due hs ?_ _)
  simp [State.runoutReached, tracked_of_listHolds h, hstate, harm]

end Sys2Proof.Machine
end

section
/-! SUPPORT. ASSIGN and ASSIGN_LANE (R56 to R58). -/

namespace Sys2Proof.Machine

theorem tracked_none {s : State} {item : Nat} (h : ∀ x ∈ s.tracking.list, x.item ≠ item) :
    s.tracked item = none := by
  simpa [State.tracked] using h

theorem pendingRecord_none {s : State} {item : Nat}
    (h : ∀ x ∈ s.tracking.fatePending, x.item ≠ item) : s.pendingRecord item = none := by
  simpa [State.pendingRecord] using h

theorem pendingRecord_some {s : State} {before after : List Record} {r : Record}
    (h : s.tracking.fatePending = before ++ r :: after) (hb : ∀ x ∈ before, x.item ≠ r.item) :
    s.pendingRecord r.item = some r := by
  have hnone : before.find? (fun x => decide (x.item = r.item)) = none := by simpa using hb
  rw [State.pendingRecord, h, List.find?_append, hnone]
  simp

theorem itemStateBytes_tracked {s : State} {item : Nat} {r : Record} (h : s.tracked item = some r) :
    s.itemStateBytes item = [0, r.state.code] := by
  unfold State.itemStateBytes
  rw [h]

theorem itemStateBytes_pending {s : State} {item : Nat} {r : Record} (h : s.tracked item = none)
    (hp : s.pendingRecord item = some r) : s.itemStateBytes item = [1, r.fateByte] := by
  unfold State.itemStateBytes
  rw [h, hp]

theorem itemStateBytes_unknown {s : State} {item : Nat} (h : s.tracked item = none)
    (hp : s.pendingRecord item = none) : s.itemStateBytes item = [0xFF, 0xFF] := by
  unfold State.itemStateBytes
  rw [h, hp]

section
variable {s : State} {item : Nat} (change : Record → Record) (f : Frame)

theorem claimWaiting_waiting {before after : List Record} {r : Record}
    (h : s.ListHolds before r after) (hw : r.state = .waiting)
    (hitem : (change r).item = r.item) (hstate : (change r).state = r.state) :
    claimWaiting r.item change f s =
      (s.withList (before ++ change r :: after)).answered f .ok (leBytes 2 r.item ++ [0, 0]) := by
  have htracked := tracked_of_listHolds (listHolds_withList h change hitem)
  rw [hitem] at htracked
  unfold claimWaiting
  rw [tracked_of_listHolds h]
  dsimp only
  rw [if_pos hw, modifyRecord_of_listHolds h, replyItem, itemStateBytes_tracked htracked, hstate, hw]
  rfl

theorem claimWaiting_decided {r : Record} (h : s.tracked item = some r) (hw : r.state ≠ .waiting) :
    claimWaiting item change f s =
      s.answered f .tooLate (leBytes 2 item ++ [0, r.state.code]) := by
  unfold claimWaiting
  rw [h]
  dsimp only
  rw [if_neg hw, replyItem, itemStateBytes_tracked h]
  rfl

theorem claimWaiting_pending {r : Record} (h : s.tracked item = none)
    (hp : s.pendingRecord item = some r) : claimWaiting item change f s =
      s.answered f .tooLate (leBytes 2 item ++ [1, optCode Fate.code r.fate]) := by
  unfold claimWaiting
  rw [h, hp]
  dsimp only
  rw [replyItem, itemStateBytes_pending h hp]
  rfl

theorem claimWaiting_unknown (h : s.tracked item = none) (hp : s.pendingRecord item = none) :
    claimWaiting item change f s =
      s.answered f .notFound (leBytes 2 item ++ [0xFF, 0xFF]) := by
  unfold claimWaiting
  rw [h, hp]
  dsimp only
  rw [replyItem, itemStateBytes_unknown h hp]
  rfl

end

/-- Settles O26: both commands are one claim, with a change that keeps the item's number and state. -/
theorem assignReplacesTheRequest : Obligations.AssignReplacesTheRequest := by
  intro s f c item change h hc
  have hexec : exec c s = .next (claimWaiting item change f s.taken) := by
    rcases hc with ⟨key, rfl, hk, hp, rfl⟩ | ⟨l, rfl, hk, hp, rfl⟩
    · exact congrArg Host.Outcome.next (onCommand_ready h hk hp)
    · exact congrArg Host.Outcome.next (onCommand_ready h hk hp)
  have hkeeps (r : Record) : (change r).item = r.item ∧ (change r).state = r.state := by
    rcases hc with ⟨key, -, -, -, rfl⟩ | ⟨l, -, -, -, rfl⟩ <;> exact ⟨rfl, rfl⟩
  rw [hexec]
  refine ⟨fun before r after hlist hitem => ?_, fun hnone =>
    ⟨fun before r after hpend hitem hb => ?_, fun hpend => ?_⟩⟩
  · subst hitem
    have hlist' : s.taken.ListHolds before r after := hlist
    exact ⟨fun hw => congrArg Host.Outcome.next
        (claimWaiting_waiting change f hlist' hw (hkeeps r).1 (hkeeps r).2),
      fun hw => congrArg Host.Outcome.next
        (claimWaiting_decided change f (tracked_of_listHolds hlist') hw)⟩
  · subst hitem
    exact congrArg Host.Outcome.next (claimWaiting_pending change f (tracked_none (s := s.taken) hnone)
      (pendingRecord_some (s := s.taken) hpend hb))
  · exact congrArg Host.Outcome.next (claimWaiting_unknown change f
      (tracked_none (s := s.taken) hnone) (pendingRecord_none (s := s.taken) hpend))

end Sys2Proof.Machine
end

section
/-! SUPPORT. Decisions in order (R53 to R55, R105): which decision is taken, and how due ones follow. -/

namespace Sys2Proof.Machine

/-! ## Taking due decisions -/

/-- The due decisions are the oldest one's, as many times as there are records. -/
theorem takeDueDecisions_eq_iterate (s : State) :
    takeDueDecisions s = decideOldest^[s.tracking.list.length] s := by
  unfold takeDueDecisions
  rw [List.foldl_const, List.length_range]

/-- The first WAITING item of the tracking list, if any, has no decision due. -/
def State.DecisionsIdle (s : State) : Prop :=
  ∀ y, s.tracking.list.find? (fun x => decide (x.state = .waiting)) = some y →
    y.decisionDue = false

theorem decideOldest_of_idle {s : State} (h : s.DecisionsIdle) : decideOldest s = s := by
  unfold decideOldest
  split
  · rename_i r hr
    rw [h r hr]
    rfl
  · rfl

theorem takeDueDecisions_of_idle {s : State} (h : s.DecisionsIdle) : takeDueDecisions s = s := by
  rw [takeDueDecisions_eq_iterate]
  exact Function.iterate_fixed (decideOldest_of_idle h) _

theorem find_waiting_append {before : List Record} (h : ∀ x ∈ before, x.state ≠ .waiting)
    (after : List Record) :
    (before ++ after).find? (fun x => decide (x.state = .waiting)) =
      after.find? (fun x => decide (x.state = .waiting)) := by
  have hnone : before.find? (fun x => decide (x.state = .waiting)) = none := by simpa using h
  rw [List.find?_append, hnone, Option.none_or]

theorem listHolds_of_nodup {s : State} {before after : List Record} {r : Record}
    (h : s.tracking.list = before ++ r :: after) (hn : (s.tracking.list.map (·.item)).Nodup) :
    s.ListHolds before r after := by
  refine ⟨h, fun x hx hi => ?_⟩
  rw [h, List.map_append, List.map_cons, List.nodup_append, List.nodup_cons] at hn
  obtain ⟨-, ⟨hafter, -⟩, hbefore⟩ := hn
  rcases List.mem_append.1 hx with hx | hx
  · exact hbefore _ (List.mem_map_of_mem hx) _ (List.mem_cons_self ..) hi
  · exact hafter (hi ▸ List.mem_map_of_mem hx)

/-- The decision trigger of a WAITING item is taken (R53). -/
theorem exec_decisionTrigger {s : State} (hs : s.resetHold = none) {before after : List Record}
    {r : Record} (h : s.ListHolds before r after) (hw : r.state = .waiting)
    (harm : r.decisionArm = .reached) :
    exec (.decisionTrigger r.item) s = .next (takeDueDecisions (s.withList
      (before ++ { r with decisionArm := .off, decisionDue := true } :: after))) := by
  refine congrArg Host.Outcome.next ((whenDue_due hs ?_ _).trans ?_)
  · simp [State.decisionReached, tracked_of_listHolds h, hw, harm]
  · exact congrArg takeDueDecisions (modifyRecord_of_listHolds h _)

/-! ## The decision of an item with neither key nor lane (R105) -/

/-- The placement of an item that runs out unread. -/
def unreadPlacement : Placement := { lane := none, reason := .noRead, route := none, group := none }

theorem select_unread {s : State} {r : Record} (hk : r.key = none) (hd : r.directLane = none)
    (hn : s.line.noRead = none)
    (hstraight : r.shortGap = false ∨ (s.source .gapShort).cls ≠ .recover ∨
      s.line.rejectLane = none) : s.select r = unreadPlacement := by
  have hs : s.shortGapLane r.shortGap = none := shortGapLane_none fun ⟨h1, h2, h3⟩ => by
    rcases hstraight with h | h | h
    · rw [h] at h1; cases h1
    · exact h h2
    · rw [h] at h3; cases h3
  rw [select_unkeyed hd hs hk, hn]
  rfl

/-- The state once the decision counter has numbered `r`, and `x` stands where it stood. -/
def State.numbered (s : State) (before : List Record) (x : Record) (after : List Record) : State :=
  s.setTracking { s.tracking with
    decisionCounter := s.tracking.decisionCounter + 1, list := before ++ x :: after }

theorem listHolds_numbered {s : State} {before after : List Record} {r : Record}
    (h : s.ListHolds before r after) {x : Record} (hx : x.item = r.item) :
    (s.numbered before x after).ListHolds before x after := ⟨rfl, by rw [hx]; exact h.2⟩

/-- A decision that finds no lane and matches no entry. -/
theorem decideItem_of_no_lane {s : State} {before after : List Record} {r : Record}
    (h : s.ListHolds before r after) {p : Placement} (hp : s.select r = p) (hl : p.lane = none) :
    decideItem r s = enterRunout r.item p.reason (countHit p.route
      (s.numbered before (r.decided (s.tracking.decisionCounter + 1) p) after)) := by
  have hcount : (countHit p.route (advanceDecision s)).tracking =
      { s.tracking with decisionCounter := s.tracking.decisionCounter + 1 } := by
    unfold countHit
    split <;> rfl
  have hholds : (countHit p.route (advanceDecision s)).ListHolds before r after :=
    listHolds_congr h (by rw [hcount])
  unfold decideItem recordPlacement
  rw [hp]
  dsimp only
  rw [hl]
  dsimp only
  rw [modifyRecord_of_listHolds hholds, hcount]
  refine congrArg (enterRunout r.item p.reason) ?_
  unfold countHit
  split <;> rfl

/-- The decision of the oldest WAITING item, due and unread: numbered, it runs out (R54, R64, R105). -/
theorem decideOldest_unread {s : State} {before after : List Record} {r : Record}
    (h : s.ListHolds before r after) (hb : ∀ x ∈ before, x.state ≠ .waiting)
    (hw : r.state = .waiting) (hd : r.decisionDue = true) (hsel : s.select r = unreadPlacement) :
    decideOldest s = enterRunout r.item .noRead (s.numbered before
      (r.decided (s.tracking.decisionCounter + 1) unreadPlacement) after) := by
  rw [decideOldest_of_listHolds h hb hw hd, decideItem_of_no_lane h hsel rfl]
  rfl

theorem RunsOutUnread.select {s : State} {r : Record} (h : s.RunsOutUnread r)
    (hn : s.line.noRead = none) : s.select r = unreadPlacement := by
  obtain ⟨-, hk, hd, hstraight, -⟩ := h
  exact select_unread hk hd hn hstraight

theorem decideOldest_runsOut {s : State} {before after : List Record} {r : Record}
    (h : s.ListHolds before r after) (hb : ∀ x ∈ before, x.state ≠ .waiting)
    (hr : s.RunsOutUnread r) (hd : r.decisionDue = true) (hn : s.line.noRead = none) :
    decideOldest s =
      s.numbered before (r.unread (s.tracking.decisionCounter + 1)) after := by
  rw [decideOldest_unread h hb hr.1 hd (RunsOutUnread.select hr hn)]
  exact enterRunout_of_listHolds
    (r := r.decided (s.tracking.decisionCounter + 1) unreadPlacement)
    (listHolds_numbered h rfl) .noRead hr.2.2.2.2

/-! ## A run of due decisions (R53) -/

/-- Records numbered in turn after `c`, each run out unread. -/
def numberUnread (c : BitVec 16) : List Record → List Record
  | [] => []
  | r :: rs => r.unread (c + 1) :: numberUnread (c + 1) rs

theorem numberUnread_eq_zipIdx (c : BitVec 16) (l : List Record) (k : Nat) :
    numberUnread (c + BitVec.ofNat 16 k) l = (l.zipIdx k).map fun (x : Record × Nat) =>
      x.1.unread (c + BitVec.ofNat 16 (x.2 + 1)) := by
  induction l generalizing k with
  | nil => rfl
  | cons r l ih =>
    have hnext : c + BitVec.ofNat 16 k + 1 = c + BitVec.ofNat 16 (k + 1) := by
      rw [BitVec.ofNat_add, BitVec.add_assoc]
      rfl
    rw [numberUnread, hnext, ih, List.zipIdx_cons, List.map_cons]

theorem numberUnread_eq (c : BitVec 16) (l : List Record) : numberUnread c l =
    l.zipIdx.map fun (x : Record × Nat) => x.1.unread (c + BitVec.ofNat 16 (x.2 + 1)) := by
  have h := numberUnread_eq_zipIdx c l 0
  rwa [show c + BitVec.ofNat 16 0 = c from BitVec.add_zero c] at h

theorem unread_not_waiting (r : Record) (c : BitVec 16) : (r.unread c).state ≠ .waiting := by
  simp [Record.unread]

/-- The due decisions at the head of the WAITING items, taken in turn. -/
theorem decideOldest_iterate {dues : List Record} {s : State} {before rest : List Record} {n : Nat}
    (hlen : dues.length ≤ n) (hlist : s.tracking.list = before ++ dues ++ rest)
    (hnodup : (s.tracking.list.map (·.item)).Nodup) (hn : s.line.noRead = none)
    (hb : ∀ x ∈ before, x.state ≠ .waiting) (hr : ∀ x ∈ dues, s.RunsOutUnread x)
    (hd : ∀ x ∈ dues, x.decisionDue = true)
    (hrest : ∀ y, rest.find? (fun x => decide (x.state = .waiting)) = some y →
      y.decisionDue = false) :
    decideOldest^[n] s = s.setTracking { s.tracking with
      decisionCounter := s.tracking.decisionCounter + BitVec.ofNat 16 dues.length
      list := before ++ numberUnread s.tracking.decisionCounter dues ++ rest } := by
  induction dues generalizing s before n with
  | nil =>
    have hidle : s.DecisionsIdle := fun y hy => by
      rw [hlist, List.append_nil, find_waiting_append hb] at hy
      exact hrest y hy
    rw [Function.iterate_fixed (decideOldest_of_idle hidle)]
    have hsame : ({ s.tracking with
        decisionCounter := s.tracking.decisionCounter + BitVec.ofNat 16 ([] : List Record).length
        list := before ++ numberUnread s.tracking.decisionCounter [] ++ rest } : Tracking) =
        s.tracking := by
      rw [show numberUnread s.tracking.decisionCounter [] = [] from rfl, ← hlist]
      simp
    rw [hsame]
    rfl
  | cons r dues ih =>
    obtain ⟨m, rfl⟩ : ∃ m, n = m + 1 := ⟨n - 1, by simp at hlen; omega⟩
    have hlist' : s.tracking.list = before ++ r :: (dues ++ rest) := by simpa using hlist
    have hholds := listHolds_of_nodup hlist' hnodup
    rw [Function.iterate_succ_apply,
      decideOldest_runsOut hholds hb (hr r (List.mem_cons_self ..)) (hd r (List.mem_cons_self ..)) hn]
    rw [ih (before := before ++ [r.unread (s.tracking.decisionCounter + 1)]) (by simpa using hlen)]
    · simp only [State.numbered, setTracking_tracking, List.append_assoc, List.singleton_append,
        numberUnread, List.length_cons]
      have hcount : BitVec.ofNat 16 (dues.length + 1) = 1 + BitVec.ofNat 16 dues.length := by
        rw [Nat.add_comm, BitVec.ofNat_add]
        rfl
      rw [hcount, ← BitVec.add_assoc]
      rfl
    · simp [State.numbered]
    · rw [hlist'] at hnodup
      simpa [State.numbered, Record.unread] using hnodup
    · exact hn
    · intro x hx
      rcases List.mem_append.1 hx with hx | hx
      · exact hb x hx
      · rw [List.mem_singleton.1 hx]
        exact unread_not_waiting _ _
    · exact fun x hx => hr x (List.mem_cons_of_mem _ hx)
    · exact fun x hx => hd x (List.mem_cons_of_mem _ hx)

/-- Due decisions at the head of the WAITING items are all taken, in list order (R53). -/
theorem takeDueDecisions_run {s : State} {before dues rest : List Record}
    (hlist : s.tracking.list = before ++ dues ++ rest)
    (hnodup : (s.tracking.list.map (·.item)).Nodup) (hn : s.line.noRead = none)
    (hb : ∀ x ∈ before, x.state ≠ .waiting) (hr : ∀ x ∈ dues, s.RunsOutUnread x)
    (hd : ∀ x ∈ dues, x.decisionDue = true)
    (hrest : ∀ y, rest.find? (fun x => decide (x.state = .waiting)) = some y →
      y.decisionDue = false) :
    takeDueDecisions s = s.setTracking { s.tracking with
      decisionCounter := s.tracking.decisionCounter + BitVec.ofNat 16 dues.length
      list := before ++ numberUnread s.tracking.decisionCounter dues ++ rest } := by
  rw [takeDueDecisions_eq_iterate]
  exact decideOldest_iterate (by rw [hlist]; simp; omega) hlist hnodup hn hb hr hd hrest

/-! ## Members of the tracking list -/

/-- Every WAITING record of `t` is one of `s`. -/
structure NoNewWaiting (s t : State) : Prop where
  mem : ∀ r ∈ t.tracking.list, r.state = .waiting → r ∈ s.tracking.list

theorem NoNewWaiting.refl (s : State) : NoNewWaiting s s := ⟨fun _ hr _ => hr⟩

theorem NoNewWaiting.trans {s t u : State} (h : NoNewWaiting s t) (k : NoNewWaiting t u) :
    NoNewWaiting s u := ⟨fun r hr hw => h.mem r (k.mem r hr hw) hw⟩

theorem NoNewWaiting.of_eq {s t : State} (h : t.tracking = s.tracking) : NoNewWaiting s t :=
  ⟨fun r hr _ => by rw [← h]; exact hr⟩

theorem NoNewWaiting.foldl {α : Type} {f : State → α → State} (h : ∀ t x, NoNewWaiting t (f t x))
    (l : List α) (s : State) : NoNewWaiting s (l.foldl f s) := by
  induction l generalizing s with
  | nil => exact .refl s
  | cons a l ih => exact (h s a).trans (ih _)

theorem modifyRecord_noNewWaiting (item : Nat) {f : Record → Record}
    (hf : ∀ r, (f r).state ≠ .waiting) (s : State) : NoNewWaiting s (modifyRecord item f s) := by
  refine ⟨fun r hr hw => ?_⟩
  simp only [modifyRecord, setTracking_tracking, List.mem_map] at hr
  obtain ⟨x, hx, rfl⟩ := hr
  split at hw
  · exact absurd hw (hf x)
  · rename_i hne
    rw [if_neg hne]
    exact hx

theorem giveFate_noNewWaiting (item : Nat) (fate : Fate) (offset : Option Int) (s : State) :
    NoNewWaiting s (giveFate item fate offset s) := by
  refine ⟨fun r hr _ => ?_⟩
  unfold giveFate at hr
  split at hr
  · exact hr
  · exact List.mem_of_mem_eraseP hr

theorem enterRunout_noNewWaiting (item : Nat) (reason : Reason) (s : State) :
    NoNewWaiting s (enterRunout item reason s) := by
  have hout (arm : Arm) := modifyRecord_noNewWaiting item (f := (·.toRunout reason arm))
    (fun r => by simp [Record.toRunout]) s
  unfold enterRunout
  split
  · exact .refl s
  · dsimp only
    split
    · exact (hout _).trans (giveFate_noNewWaiting ..)
    · exact hout _

theorem withdrawReserved_noNewWaiting (l : LaneId) (s : State) :
    NoNewWaiting s (withdrawReserved l s) := by
  have hset (u : LaneUnit) : NoNewWaiting s (s.setLane l u) := .of_eq rfl
  exact (hset _).trans (.foldl (f := fun t (e : Entry) => enterRunout e.item .withdrawn t)
    (fun t e => enterRunout_noNewWaiting e.item .withdrawn t) _ _)

theorem fenceLane_noNewWaiting (l : LaneId) (s : State) : NoNewWaiting s (fenceLane l s) := by
  have hclose (target : ClosingTarget) : NoNewWaiting s (enterClosing l target s) := by
    have hstate := NoNewWaiting.of_eq (s := s)
      (t := modifyLane l (fun u => { u with state := .closing target }) s) (by simp)
    exact (hstate.trans (withdrawReserved_noNewWaiting l _)).trans
      (.of_eq (by simp [enterClosing]))
  unfold fenceLane
  split
  · exact hclose _
  · exact hclose _
  all_goals exact .of_eq (by simp)

theorem takeAction_noNewWaiting (f : FaultSource) (s : State) :
    NoNewWaiting s (takeAction f s) := by
  have hfence (set : BitVec 16) : NoNewWaiting s (fenceLanes set s) :=
    .foldl (fun t l => by
      dsimp only
      split
      · exact fenceLane_noNewWaiting ..
      · exact .refl _) _ _
  unfold takeAction
  split
  · exact .refl s
  · unfold recoverAction
    split
    case h_3 | h_4 | h_5 | h_6 => exact hfence _
    all_goals exact .of_eq (by simp)
  · exact .of_eq (by simp)
  · refine ⟨fun r hr _ => ?_⟩
    rw [stopAction_tracking] at hr
    cases hr

theorem faultOccur_noNewWaiting (f : FaultSource) (lane : Option LaneId) (s : State) :
    NoNewWaiting s (faultOccur f lane s) := by
  have hset (x : SourceState) : NoNewWaiting s (s.setSource f x) := .of_eq rfl
  cases hl : (s.source f).latched with
  | true =>
    rw [faultOccur_of_latched hl]
    unfold repeatOccurrence
    dsimp only
    split
    · exact hset _
    · split
      · exact hset _
      · split
        · exact (hset _).trans (fenceLane_noNewWaiting ..)
        · exact hset _
  | false =>
    have hchoose (t : State) : NoNewWaiting t (chooseInfeed t) := .of_eq (by simp)
    cases hm : (s.source f).masked with
    | true => rw [faultOccur_of_masked hl hm]; exact (hset _).trans (hchoose _)
    | false =>
      rw [faultOccur_of_acts hl hm]
      refine ((hset ((s.source f).latchedBy lane)).trans ?_).trans (hchoose _)
      have hcapture : NoNewWaiting (s.setSource f ((s.source f).latchedBy lane))
          (captureFirst f (s.setSource f ((s.source f).latchedBy lane))) := .of_eq rfl
      exact (hcapture.trans (takeAction_noNewWaiting f _)).trans (.of_eq rfl)

/-- With no decision due, nothing WAITING is due after an operation that adds none. -/
theorem NoNewWaiting.idle {s t : State} (h : NoNewWaiting s t)
    (hs : ∀ r ∈ s.tracking.list, r.state = .waiting → r.decisionDue = false) :
    ∀ r ∈ t.tracking.list, r.state = .waiting → r.decisionDue = false :=
  fun r hr hw => hs r (h.mem r hr hw) hw

/-- Settles O22: a trigger behind an older WAITING item marks; the oldest one's is taken, and the due
decisions behind it follow in list order. -/
theorem decisionsGoInOrder : Obligations.DecisionsGoInOrder := by
  refine ⟨fun s before after older r hs h hold hdue hw harm => ?_,
    fun s before after r hs h hb ha hw harm hk hd hn hstraight => ?_,
    fun s before dues rest r hs hlist hnodup hn hb harm hr hd hrest => ?_⟩
  · rw [exec_decisionTrigger hs h hw harm, takeDueDecisions_of_idle]
    intro y hy
    have hfirst : List.find? (fun x : Record => decide (x.state = .waiting))
        (older :: (before ++ { r with decisionArm := .off, decisionDue := true } :: after)) =
          some older := List.find?_cons_of_pos (by simpa using hold)
    cases hfirst.symm.trans hy
    exact hdue
  · intro t
    have hdue := listHolds_withList h
      (fun r => { r with decisionArm := .off, decisionDue := true }) rfl
    have hone := decideOldest_unread hdue hb hw rfl (select_unread hk hd hn hstraight)
    have hholds := listHolds_numbered (x := { r with decisionArm := .off, decisionDue := true }.decided
      ((s.withList (before ++ { r with decisionArm := .off, decisionDue := true } :: after)
        ).tracking.decisionCounter + 1) unreadPlacement) hdue rfl
    have hidle : ∀ x ∈ before ++ r.unread (s.tracking.decisionCounter + 1) :: after,
        x.state = .waiting → x.decisionDue = false := by
      intro x hx hxw
      rcases List.mem_append.1 hx with hx | hx
      · exact absurd hxw (hb x hx)
      · rcases List.mem_cons.1 hx with rfl | hx
        · exact absurd hxw (unread_not_waiting _ _)
        · exact ha x hx
    refine ⟨fun hahead => ?_, fun hahead => ?_⟩
    · have hrun := hone.trans (enterRunout_of_listHolds hholds .noRead hahead)
      rw [exec_decisionTrigger hs h hw harm, takeDueDecisions_once (by simp [State.withList])]
      · exact congrArg Host.Outcome.next hrun
      · rw [hrun]
        exact hidle
    · have hrun := hone.trans (enterRunout_of_not_ahead hholds .noRead hahead)
      rw [exec_decisionTrigger hs h hw harm, takeDueDecisions_once (by simp [State.withList])]
      · rw [hrun]
        refine congrArg Host.Outcome.next ?_
        have hgiven := giveFate_of_listHolds (listHolds_numbered
          (x := r.unread (s.tracking.decisionCounter + 1)) h rfl) .passedEnd none
        exact (giveFate_of_listHolds (listHolds_numbered (x := { r.unread
          (s.tracking.decisionCounter + 1) with runoutArm := .reached }) h rfl) .passedEnd
            none).trans hgiven.symm
      · rw [hrun]
        exact (giveFate_noNewWaiting ..).idle fun x hx hxw => by
          rcases List.mem_append.1 hx with hx | hx
          · exact absurd hxw (hb x hx)
          · rcases List.mem_cons.1 hx with rfl | hx
            · cases hxw
            · exact ha x hx
  · have h := listHolds_of_nodup (by simpa using hlist) hnodup
    have hr0 := hr r (List.mem_cons_self ..)
    rw [exec_decisionTrigger hs h hr0.1 harm]
    refine congrArg Host.Outcome.next ((takeDueDecisions_run (before := before)
      (dues := { r with decisionArm := .off, decisionDue := true } :: dues) (rest := rest)
      ?_ ?_ (by exact hn) hb ?_ ?_ hrest).trans ?_)
    · simp [State.withList]
    · rw [hlist] at hnodup
      simpa [State.withList] using hnodup
    · exact List.forall_mem_cons.2 ⟨hr0, fun x hx => hr x (List.mem_cons_of_mem _ hx)⟩
    · exact List.forall_mem_cons.2 ⟨rfl, hd⟩
    · rw [← numberUnread_eq]
      rfl

end Sys2Proof.Machine
end

section
/-! SUPPORT. What a fire leaves of its lane's queue and of the WAITING items, and the decision that finds a
lane (R54, R121 to R124). -/

namespace Sys2Proof.Machine

/-! ## Lanes that operations elsewhere leave -/

theorem chooseInfeed_lane (s : State) (l : LaneId) : (chooseInfeed s).lane l = s.lane l :=
  lane_congr (by simp) l

theorem modifyRecord_lane (item : Nat) (f : Record → Record) (s : State) (l : LaneId) :
    (modifyRecord item f s).lane l = s.lane l := lane_congr (by simp) l

theorem giveFate_lane (item : Nat) (fate : Fate) (offset : Option Int) (s : State) (l : LaneId) :
    (giveFate item fate offset s).lane l = s.lane l := lane_congr (by simp) l

theorem enterRunout_lane (item : Nat) (reason : Reason) (s : State) (l : LaneId) :
    (enterRunout item reason s).lane l = s.lane l := lane_congr (by simp) l

/-! ## The queue after an occurrence -/

theorem fenced_queue_subset (u : LaneUnit) : u.fenced.queue ⊆ u.queue := by
  unfold LaneUnit.fenced
  split
  case h_1 | h_2 =>
    simp only [LaneUnit.closed, cutShort_frame]
    exact List.filter_subset_self _
  all_goals exact List.Subset.refl _

theorem recoverAction_queue (f : FaultSource) (s : State) (l : LaneId) :
    ((recoverAction f s).lane l).queue ⊆ (s.lane l).queue := by
  have hfence (set : BitVec 16) : ((fenceLanes set s).lane l).queue ⊆ (s.lane l).queue := by
    rw [fenceLanes_lane]
    split
    · exact fenced_queue_subset _
    · exact List.Subset.refl _
  unfold recoverAction
  split
  case h_3 | h_4 | h_5 | h_6 => exact hfence _
  all_goals exact List.Subset.refl _

theorem takeAction_queue (f : FaultSource) (s : State) (l : LaneId) :
    ((takeAction f s).lane l).queue ⊆ (s.lane l).queue := by
  unfold takeAction
  split
  · exact List.Subset.refl _
  · exact recoverAction_queue f s l
  · rw [lane_congr (s := s) (by simp)]
    exact List.Subset.refl _
  · obtain ⟨hqueue, -⟩ := stopAction_lane s l
    rw [hqueue]
    split
    · exact List.Subset.refl _
    · exact List.nil_subset _

/-- An occurrence adds no entry to a queue (R145, R146). -/
theorem faultOccur_queue (f : FaultSource) (lane : Option LaneId) (s : State) (l : LaneId) :
    ((faultOccur f lane s).lane l).queue ⊆ (s.lane l).queue := by
  cases hl : (s.source f).latched with
  | true =>
    rw [faultOccur_of_latched hl]
    unfold repeatOccurrence
    dsimp only
    split
    · exact List.Subset.refl _
    · split
      · exact List.Subset.refl _
      · split
        · rw [fenceLane_lane]
          split
          · subst_vars; exact fenced_queue_subset _
          · exact List.Subset.refl _
        · exact List.Subset.refl _
  | false =>
    cases hm : (s.source f).masked with
    | true =>
      rw [faultOccur_of_masked hl hm, lane_congr (s := s) (by simp [State.setSource])]
      exact List.Subset.refl _
    | false =>
      rw [faultOccur_of_acts hl hm, chooseInfeed_lane]
      exact takeAction_queue f (captureFirst f (s.setSource f ((s.source f).latchedBy lane))) l

/-! ## A fire leaves no RESERVED entry where it found one -/

/-- Every entry of lane `l`'s queue is DIVERTING. -/
def State.AllDiverting (s : State) (l : LaneId) : Prop :=
  ∀ e ∈ (s.lane l).queue, e.diverting = true

theorem State.AllDiverting.subset {s t : State} {l : LaneId} (h : s.AllDiverting l)
    (hq : (t.lane l).queue ⊆ (s.lane l).queue) : t.AllDiverting l := fun e he => h e (hq he)

theorem State.AllDiverting.testExit {s : State} {l : LaneId} (h : s.AllDiverting l) :
    (testExit l s).AllDiverting l := h.subset (by simp [testExit_lane])

theorem takeFire_of_allDiverting {s : State} {l : LaneId} (h : s.AllDiverting l) :
    takeFire l s = s := by
  have hnone : (s.lane l).oldestReserved = none := by
    unfold LaneUnit.oldestReserved
    rw [List.find?_eq_none]
    intro e he
    simp [h e he]
  unfold takeFire
  rw [hnone]

theorem takeFire_of_oldest {s : State} {l : LaneId} {e : Entry}
    (h : (s.lane l).oldestReserved = some e) : takeFire l s =
      if e.fireArm = .reached then
        if (s.lane l).phase = .idle then fireEntry l e s else overrunEntry l e s
      else s := by
  unfold takeFire
  rw [h]

/-- Entries other than `e` are DIVERTING. -/
def OthersDiverting (u : LaneUnit) (e : Entry) : Prop :=
  ∀ x ∈ u.queue, x.diverting = true ∨ x.item = e.item

theorem allDiverting_removed {s t : State} {l : LaneId} {e : Entry}
    (h : OthersDiverting (s.lane l) e)
    (hq : (t.lane l).queue ⊆ ((s.lane l).removeEntry e.item).queue) : t.AllDiverting l := by
  intro x hx
  have hmem := hq hx
  simp only [LaneUnit.removeEntry, List.mem_filter, decide_eq_true_eq] at hmem
  obtain ⟨hin, hne⟩ := hmem
  exact (h x hin).resolve_right hne

theorem missEntry_lane_queue (l : LaneId) (e : Entry) (s : State) :
    ((missEntry l e s).lane l).queue ⊆ ((s.lane l).removeEntry e.item).queue := by
  refine List.Subset.trans (faultOccur_queue _ _ _ l) ?_
  rw [testExit_lane, if_pos rfl, handEvent_lane, giveFate_lane, modifyLane_lane_same]
  exact List.Subset.refl _

theorem overrunEntry_lane_queue (l : LaneId) (e : Entry) (s : State) :
    ((overrunEntry l e s).lane l).queue ⊆ ((s.lane l).removeEntry e.item).queue := by
  refine List.Subset.trans (faultOccur_queue _ _ _ l) ?_
  rw [testExit_lane, if_pos rfl, enterRunout_lane, modifyLane_lane_same]
  exact List.Subset.refl _

theorem takeDwellEnd_lane_queue (l : LaneId) (s : State) :
    ((takeDwellEnd l s).lane l).queue = (s.lane l).queue := by
  unfold takeDwellEnd
  split
  · rw [testExit_lane, if_pos rfl, modifyLane_lane_same]
    unfold LaneUnit.enterRetract LaneUnit.enterSettle
    split
    · split <;> rfl
    · rfl
  · rfl

theorem fireEntry_allDiverting {s : State} {l : LaneId} {e : Entry}
    (h : OthersDiverting (s.lane l) e) : (fireEntry l e s).AllDiverting l := by
  have hfired : (takeDwellEnd l (modifyRecord e.item (fun r => { r with state := .diverting })
      (modifyLane l (fun u => u.fire e s) s))).AllDiverting l := by
    intro x hx
    rw [takeDwellEnd_lane_queue, modifyRecord_lane, modifyLane_lane_same] at hx
    simp only [LaneUnit.fire, LaneUnit.modifyEntry, List.mem_map] at hx
    obtain ⟨y, hy, rfl⟩ := hx
    split
    · rfl
    · exact (h y hy).resolve_right ‹_›
  unfold fireEntry takeArmedClose
  split
  · exact hfired.subset (List.Subset.trans (missEntry_lane_queue l e _)
      (List.filter_subset_self _))
  · exact hfired

theorem takeFire_allDiverting {s : State} {l : LaneId} {e : Entry}
    (ho : (s.lane l).oldestReserved = some e) (hr : e.fireArm = .reached)
    (h : OthersDiverting (s.lane l) e) : (takeFire l s).AllDiverting l := by
  rw [takeFire_of_oldest ho, if_pos hr]
  split
  · exact fireEntry_allDiverting h
  · exact allDiverting_removed h (overrunEntry_lane_queue l e s)

/-- The only RESERVED entry's trigger is taken once (R121). -/
theorem takeArmedFire_once {s : State} {l : LaneId} {fire : Word} {e : Entry}
    (hfire : ¬ s.Ahead fire) (ho : (s.lane l).oldestReserved = some e) (hr : e.fireArm = .reached)
    (h : OthersDiverting (s.lane l) e) : takeArmedFire l fire s = takeFire l s := by
  have hmem : e ∈ (s.lane l).queue := List.mem_of_find?_eq_some ho
  obtain ⟨n, hn⟩ : ∃ n, (s.lane l).queue.length = n + 1 :=
    ⟨_, (Nat.succ_pred_eq_of_pos (List.length_pos_of_mem hmem)).symm⟩
  unfold takeArmedFire
  rw [if_pos ((armAt_reached_iff s fire).2 hfire), List.foldl_const, List.length_range, hn,
    Function.iterate_succ_apply]
  exact Function.iterate_fixed (takeFire_of_allDiverting (takeFire_allDiverting ho hr h)) _

theorem takeArmedFire_ahead {s : State} {l : LaneId} {fire : Word} (hfire : s.Ahead fire) :
    takeArmedFire l fire s = s := if_neg (by rw [armAt_reached_iff]; simpa using hfire)

/-! ## A fire makes nothing WAITING -/

theorem missEntry_noNewWaiting (l : LaneId) (e : Entry) (s : State) :
    NoNewWaiting s (missEntry l e s) := by
  have hremove : NoNewWaiting s (modifyLane l (·.removeEntry e.item) s) := .of_eq (by simp)
  have hfate := giveFate_noNewWaiting e.item .missed none (modifyLane l (·.removeEntry e.item) s)
  exact ((hremove.trans hfate).trans (.of_eq (by simp))).trans (faultOccur_noNewWaiting ..)

theorem overrunEntry_noNewWaiting (l : LaneId) (e : Entry) (s : State) :
    NoNewWaiting s (overrunEntry l e s) := by
  have hremove : NoNewWaiting s (modifyLane l (·.removeEntry e.item) s) := .of_eq (by simp)
  have hout := enterRunout_noNewWaiting e.item .diverterBusy (modifyLane l (·.removeEntry e.item) s)
  exact ((hremove.trans hout).trans (.of_eq (by simp))).trans (faultOccur_noNewWaiting ..)

theorem fireEntry_noNewWaiting (l : LaneId) (e : Entry) (s : State) :
    NoNewWaiting s (fireEntry l e s) := by
  have hlane : NoNewWaiting s (modifyLane l (fun u => u.fire e s) s) := .of_eq (by simp)
  have hrecord := modifyRecord_noNewWaiting e.item
    (f := fun r => { r with state := .diverting }) (fun _ => by simp)
    (modifyLane l (fun u => u.fire e s) s)
  have hdwell (t : State) : NoNewWaiting t (takeDwellEnd l t) := .of_eq (by simp)
  have hclose (t : State) : NoNewWaiting t (takeArmedClose l e t) := by
    unfold takeArmedClose
    split
    · exact missEntry_noNewWaiting l e t
    · exact .refl t
  exact ((hlane.trans hrecord).trans (hdwell _)).trans (hclose _)

theorem takeFire_noNewWaiting (l : LaneId) (s : State) : NoNewWaiting s (takeFire l s) := by
  unfold takeFire
  split
  · split
    · split
      · exact fireEntry_noNewWaiting ..
      · exact overrunEntry_noNewWaiting ..
    · exact .refl s
  · exact .refl s

/-! ## The decision that finds a lane -/

/-- The entry that a reservation adds to lane `l`'s queue (R121). -/
def State.newEntry (s : State) (r : Record) (l : LaneId) (arm : Arm) : Entry :=
  { item := r.item, diverting := false, firePos := s.offerPosition r.lead l,
    openPos := (s.offerPosition r.lead l).plus (s.lane l).geometry.confirmOpen,
    closePos := (s.offerPosition r.lead l).plus (s.lane l).geometry.confirmClose,
    fireArm := arm, closeArm := .off }

/-- The state once a decision has reserved lane `l` for `r`, before any trigger is taken (R54, R121). -/
def State.reserved (s : State) (before : List Record) (r : Record) (after : List Record)
    (p : Placement) (l : LaneId) (arm : Arm) : State :=
  ((((s.numbered before { r.decided (s.tracking.decisionCounter + 1) p with
      state := .reserved, lane := some l, firePos := some (s.offerPosition r.lead l) } after
    ).setRoutes (s.routes.withHit p.route)).setCursors (match p.group with
      | some g => s.cursors.set g l
      | none => s.cursors)).setLane l { s.lane l with
    queue := (s.lane l).queue ++ [s.newEntry r l arm]
    lastFire := some (s.offerPosition r.lead l), lastFireExpiry := .armed })

theorem countHit_eq (route : Option (Fin 32)) (s : State) :
    countHit route s = s.setRoutes (s.routes.withHit route) := by
  cases route <;> rfl

theorem moveCursor_eq (group : Option (Fin 8)) (l : LaneId) (s : State) :
    moveCursor group l s = s.setCursors (match group with
      | some g => s.cursors.set g l
      | none => s.cursors) := by
  cases group <;> rfl

theorem decideItem_of_lane {s : State} {before after : List Record} {r : Record}
    (h : s.ListHolds before r after) {p : Placement} (hp : s.select r = p) {l : LaneId}
    (hl : p.lane = some l) (hexpiry : s.Ahead ((s.offerPosition r.lead l).plus 65536)) :
    decideItem r s = takeArmedFire l (s.offerPosition r.lead l)
      (s.reserved before r after p l (armAt s (s.offerPosition r.lead l))) := by
  have hreserve : (s.lane l).reserve r.item (s.offerPosition r.lead l) s = { s.lane l with
      queue := (s.lane l).queue ++ [s.newEntry r l (armAt s (s.offerPosition r.lead l))]
      lastFire := some (s.offerPosition r.lead l), lastFireExpiry := .armed } := by
    unfold LaneUnit.reserve
    rw [show Config.expiryDistance = 65536 from rfl, armAt_of_ahead hexpiry]
    rfl
  unfold decideItem recordPlacement
  rw [hp]
  dsimp only
  rw [hl]
  dsimp only
  simp only [countHit_eq, moveCursor_eq]
  have hholds : (((modifyLane l (fun u => u.reserve r.item (s.offerPosition r.lead l) s)
      ((advanceDecision s).setRoutes (s.routes.withHit p.route))).setCursors (match p.group with
        | some g => s.cursors.set g l
        | none => s.cursors))).ListHolds before r after := h
  refine congrArg (takeArmedFire l (s.offerPosition r.lead l)) ?_
  refine (modifyRecord_of_listHolds hholds _).trans ?_
  unfold State.reserved
  rw [← hreserve]
  rfl

/-- A record marked due, as its decision trigger leaves it (R53). -/
def Record.marked (r : Record) : Record := { r with decisionArm := .off, decisionDue := true }

theorem select_marked (s : State) (list : List Record) (r : Record) :
    (s.withList list).select r.marked = s.select r := rfl

/-- Where the decision of the oldest WAITING item leaves nothing due, it is all that is taken. -/
theorem exec_decisionTrigger_oldest {s : State} {before after : List Record} {r : Record}
    (hs : s.resetHold = none) (h : s.ListHolds before r after)
    (hb : ∀ x ∈ before, x.state ≠ .waiting) (hw : r.state = .waiting)
    (harm : r.decisionArm = .reached) {t : State}
    (ht : decideItem r.marked (s.withList (before ++ r.marked :: after)) = t)
    (hidle : ∀ x ∈ t.tracking.list, x.state = .waiting → x.decisionDue = false) :
    exec (.decisionTrigger r.item) s = .next t := by
  have hone : decideOldest (s.withList (before ++ r.marked :: after)) = t :=
    (decideOldest_of_listHolds (listHolds_withList h Record.marked rfl) hb hw rfl).trans ht
  have honce := takeDueDecisions_once (s := s.withList (before ++ r.marked :: after))
    (by simp [State.withList]) (by rw [hone]; exact hidle)
  rw [exec_decisionTrigger hs h hw harm]
  exact congrArg Host.Outcome.next (honce.trans hone)

/-- A list with one record that is not WAITING put among records of which none is due holds none due. -/
theorem idle_of_replaced {before after : List Record} {x : Record}
    (hb : ∀ y ∈ before, y.state ≠ .waiting) (hx : x.state ≠ .waiting)
    (ha : ∀ y ∈ after, y.decisionDue = false) :
    ∀ y ∈ before ++ x :: after, y.state = .waiting → y.decisionDue = false := by
  intro y hy hw
  rcases List.mem_append.1 hy with hy | hy
  · exact absurd hw (hb y hy)
  · rcases List.mem_cons.1 hy with rfl | hy
    · exact absurd hw hx
    · exact ha y hy

/-- Settles O24: by the two ends of `recordPlacement`; a fire position already reached is taken once, since
the entry is the lane's only RESERVED one. -/
theorem decisionTakesTheSelection : Obligations.DecisionTakesTheSelection := by
  intro s before after r hs h hb ha hw harm p numbered tracked
  have hmarked := listHolds_withList h Record.marked rfl
  have hsel := select_marked s (before ++ r.marked :: after) r
  constructor
  · intro l hl fire reserved hexpiry
    refine ⟨fun hfire => ?_, fun hfire hqueue => ?_⟩
    · have hitem := decideItem_of_lane hmarked hsel hl hexpiry
      have harmed : armAt (s.withList (before ++ r.marked :: after)) fire = .armed :=
        armAt_of_ahead hfire
      refine exec_decisionTrigger_oldest hs h hb hw harm (hitem.trans ?_)
        (idle_of_replaced hb (by simp) ha)
      rw [takeArmedFire_ahead (by exact hfire)]
      exact congrArg _ harmed
    · have hitem := decideItem_of_lane hmarked hsel hl hexpiry
      have harmed : armAt (s.withList (before ++ r.marked :: after)) fire = .reached :=
        armAt_of_not_ahead hfire
      have hstate : (s.withList (before ++ r.marked :: after)).reserved before r.marked after p l
          .reached = reserved .reached := rfl
      have hlane : ((reserved .reached).lane l).queue = (s.lane l).queue ++
          [s.newEntry r l .reached] := congrArg LaneUnit.queue (setLane_lane_same _ l _)
      have hfired : takeArmedFire l fire (reserved .reached) = takeFire l (reserved .reached) := by
        refine takeArmedFire_once hfire (e := s.newEntry r l .reached) ?_ rfl ?_
        · have hnone : (s.lane l).queue.find? (fun e => !e.diverting) = none := by
            simpa using hqueue
          rw [LaneUnit.oldestReserved, hlane, List.find?_append, hnone]
          rfl
        · intro x hx
          rw [hlane] at hx
          rcases List.mem_append.1 hx with hx | hx
          · exact .inl (hqueue x hx)
          · rw [List.mem_singleton.1 hx]
            exact .inr rfl
      have hexec : exec (.fireTrigger l) (reserved .reached) =
          .next (takeFire l (reserved .reached)) :=
        congrArg Host.Outcome.next (whenRunning_running (by exact hs) _)
      rw [hexec]
      refine exec_decisionTrigger_oldest hs h hb hw harm (hitem.trans ?_)
        ((takeFire_noNewWaiting l (reserved .reached)).idle
          (idle_of_replaced hb (by simp) ha))
      rw [← hfired, ← hstate]
      exact congrArg (fun a => takeArmedFire l fire
        ((s.withList (before ++ r.marked :: after)).reserved before r.marked after p l a)) harmed
  · intro hl ran
    refine ⟨fun hahead => ?_, fun hahead => ?_⟩
    · have hitem := decideItem_of_no_lane hmarked hsel hl
      have hnumbered := listHolds_numbered (x := r.marked.decided
        ((s.withList (before ++ r.marked :: after)).tracking.decisionCounter + 1) p) hmarked rfl
      refine exec_decisionTrigger_oldest hs h hb hw harm (hitem.trans ?_)
        (idle_of_replaced hb (by simp) ha)
      have hrouted := listHolds_congr (t := ((s.withList (before ++ r.marked :: after)).numbered before
        (r.marked.decided (s.tracking.decisionCounter + 1) p) after).setRoutes
          (s.routes.withHit p.route)) hnumbered rfl
      rw [countHit_eq]
      exact enterRunout_of_listHolds hrouted p.reason hahead
    · have hitem := decideItem_of_no_lane hmarked hsel hl
      have hnumbered := listHolds_numbered (x := r.marked.decided
        ((s.withList (before ++ r.marked :: after)).tracking.decisionCounter + 1) p) hmarked rfl
      refine exec_decisionTrigger_oldest hs h hb hw harm (hitem.trans ?_)
        ((giveFate_noNewWaiting ..).idle (idle_of_replaced hb (by simp) ha))
      have hrouted := listHolds_congr (t := ((s.withList (before ++ r.marked :: after)).numbered before
        (r.marked.decided (s.tracking.decisionCounter + 1) p) after).setRoutes
          (s.routes.withHit p.route)) hnumbered rfl
      rw [countHit_eq]
      exact enterRunout_of_not_ahead hrouted p.reason hahead

end Sys2Proof.Machine
end

section
/-! SUPPORT. CANCEL by the record's state (R59 to R61). -/

namespace Sys2Proof.Machine

theorem exec_cancel {s : State} {f : Frame} {item : Nat} (h : s.Ready f) (hk : f.kind = 0x22)
    (hp : parseItem f.payload = some item) :
    exec .cancel s = .next (answerCancel item f s.taken) :=
  congrArg Host.Outcome.next (onCommand_ready h hk hp)

/-- A WAITING item as CANCEL decides it, its run-out ahead (R54, R59, R64). -/
def Record.cancelled (r : Record) (number : BitVec 16) : Record :=
  { r with
    state := .runout, reason := some .cancelled, route := none, lane := none, firePos := none
    decisionNumber := some number, decisionDue := false, decisionArm := .off, runoutArm := .armed }

/-- A tracked item's reply to a CANCEL that leaves it in RUNOUT. -/
theorem replyCancel_runout {s : State} {f : Frame} {item : Nat} {r : Record}
    (h : s.tracked item = some r) (hs : r.state = .runout) (marker : Bool) :
    replyCancel f .ok item marker s =
      s.answered f .ok (leBytes 2 item ++ [flagByte marker, 0, 3]) := by
  rw [replyCancel, itemStateBytes_tracked h, hs]
  rfl

section
variable {s : State} {f : Frame} {before after : List Record} {r : Record}

theorem answerCancel_of_listHolds (h : s.ListHolds before r after) (f : Frame) :
    answerCancel r.item f s = match r.state with
      | .waiting => replyCancel f .ok r.item false (cancelWaiting r.item s)
      | .reserved => answerCancelReserved r.item r.lane f s
      | .diverting => refuseCancel f .tooLate r.item s
      | .runout => replyCancel f .ok r.item true s := by
  unfold answerCancel
  rw [tracked_of_listHolds h] <;> rfl

/-- A WAITING item cancelled is numbered and runs out; the due decisions follow (R53, R59). -/
theorem cancelWaiting_eq (h : s.ListHolds before r after) (ha : s.Ahead r.runoutPoint) :
    cancelWaiting r.item s = takeDueDecisions
      (s.numbered before (r.cancelled (s.tracking.decisionCounter + 1)) after) := by
  have hadvanced : (advanceDecision s).ListHolds before r after := listHolds_congr h rfl
  have hnumbered := listHolds_withList hadvanced (fun r => { r with
    decisionNumber := some (advanceDecision s).tracking.decisionCounter, route := none
    decisionDue := false, decisionArm := .off }) rfl
  unfold cancelWaiting
  dsimp only
  rw [modifyRecord_of_listHolds hadvanced]
  exact congrArg takeDueDecisions (enterRunout_of_listHolds hnumbered .cancelled ha)

theorem answerCancel_waiting (h : s.ListHolds before r after) (hw : r.state = .waiting)
    (ha : s.Ahead r.runoutPoint) (hdue : ∀ x ∈ before ++ after, x.decisionDue = false) :
    answerCancel r.item f s =
      (s.numbered before (r.cancelled (s.tracking.decisionCounter + 1)) after).answered
        f .ok (leBytes 2 r.item ++ [0, 0, 3]) := by
  have hidle : ∀ x ∈ before ++ r.cancelled (s.tracking.decisionCounter + 1) :: after,
      x.state = .waiting → x.decisionDue = false := by
    intro x hx hxw
    rcases List.mem_append.1 hx with hx | hx
    · exact hdue x (List.mem_append_left _ hx)
    · rcases List.mem_cons.1 hx with rfl | hx
      · rfl
      · exact hdue x (List.mem_append_right _ hx)
  rw [answerCancel_of_listHolds h, hw]
  dsimp only
  rw [cancelWaiting_eq h ha, takeDueDecisions_none hidle]
  exact replyCancel_runout (tracked_of_listHolds (listHolds_numbered (x := r.cancelled _) h rfl))
    rfl false

theorem numberUnread_items (c : BitVec 16) (l : List Record) :
    (numberUnread c l).map (·.item) = l.map (·.item) := by
  induction l generalizing c with
  | nil => rfl
  | cons r l ih =>
    rw [numberUnread, List.map_cons, List.map_cons, ih]
    rfl

/-- A WAITING item cancelled with due decisions behind it (R53, R59). -/
theorem answerCancel_dues {dues rest : List Record} (hlist : s.tracking.list = before ++ r :: (dues ++ rest))
    (hw : r.state = .waiting) (ha : s.Ahead r.runoutPoint)
    (hnodup : (s.tracking.list.map (·.item)).Nodup) (hn : s.line.noRead = none)
    (hb : ∀ x ∈ before, x.state ≠ .waiting) (hr : ∀ x ∈ dues, s.RunsOutUnread x)
    (hd : ∀ x ∈ dues, x.decisionDue = true)
    (hrest : ∀ y, rest.find? (fun x => decide (x.state = .waiting)) = some y →
      y.decisionDue = false) :
    answerCancel r.item f s = (s.setTracking { s.tracking with
      decisionCounter := s.tracking.decisionCounter + 1 + BitVec.ofNat 16 dues.length
      list := before ++ r.cancelled (s.tracking.decisionCounter + 1) ::
        (numberUnread (s.tracking.decisionCounter + 1) dues ++ rest) }).answered
        f .ok (leBytes 2 r.item ++ [0, 0, 3]) := by
  have h := listHolds_of_nodup hlist hnodup
  have hrun := takeDueDecisions_run
    (s := s.numbered before (r.cancelled (s.tracking.decisionCounter + 1)) (dues ++ rest))
    (before := before ++ [r.cancelled (s.tracking.decisionCounter + 1)]) (dues := dues)
    (rest := rest) (by simp [State.numbered])
    (by rw [hlist] at hnodup; simpa [State.numbered, Record.cancelled] using hnodup)
    (by exact hn) (fun x hx => by
      rcases List.mem_append.1 hx with hx | hx
      · exact hb x hx
      · rw [List.mem_singleton.1 hx]; simp [Record.cancelled])
    (fun x hx => hr x hx) hd hrest
  rw [List.append_assoc, List.append_assoc, List.singleton_append] at hrun
  rw [answerCancel_of_listHolds h, hw]
  dsimp only
  rw [cancelWaiting_eq h ha, hrun]
  refine replyCancel_runout (tracked_of_listHolds (r := r.cancelled _)
    (listHolds_of_nodup (before := before) rfl ?_)) rfl false
  rw [hlist] at hnodup
  simpa [numberUnread_items, Record.cancelled] using hnodup

/-- The one RESERVED entry of an item is removed from its lane's queue (R130). -/
theorem removeReserved_of_queue {u : LaneUnit} {front : List Entry} {e : Entry} {back : List Entry}
    {item : Nat} (hq : u.queue = front ++ e :: back) (he : e.item = item)
    (hd : e.diverting = false) (hx : ∀ x ∈ front ++ back, x.item ≠ item) :
    u.removeReserved item = { u with queue := front ++ back } := by
  have hkeep (l : List Entry) (hl : ∀ x ∈ l, x.item ≠ item) :
      l.filter (fun e => !(decide (e.item = item) && !e.diverting)) = l :=
    List.filter_eq_self.2 fun x hm => by simp [hl x hm]
  unfold LaneUnit.removeReserved
  rw [hq, List.filter_append, List.filter_cons_of_neg (by simp [he, hd]),
    hkeep front fun x hm => hx x (List.mem_append_left _ hm),
    hkeep back fun x hm => hx x (List.mem_append_right _ hm)]

theorem answerCancel_reserved (h : s.ListHolds before r after) {l : LaneId} {front : List Entry}
    {e : Entry} {back : List Entry} (hw : r.state = .reserved) (hl : r.lane = some l)
    (ha : s.Ahead r.runoutPoint) (hq : (s.lane l).queue = front ++ e :: back)
    (he : e.item = r.item) (hd : e.diverting = false)
    (hx : ∀ x ∈ front ++ back, x.item ≠ r.item) :
    answerCancel r.item f s =
      (((testExit l (s.setLane l { s.lane l with queue := front ++ back })).setTracking
        { s.tracking with list := before ++ { r with
          state := .runout, reason := some .cancelled, lane := none, firePos := none
          runoutArm := .armed } :: after }).answered f .ok (leBytes 2 r.item ++ [0, 0, 3])) := by
  have hholds : (s.lane l).holdsReserved r.item = true := by
    simp [LaneUnit.holdsReserved, hq, he, hd]
  have hexit : (testExit l (s.setLane l { s.lane l with queue := front ++ back })).tracking =
      s.tracking := by
    simp only [testExit_frame]
    rfl
  have hlist : (testExit l (s.setLane l { s.lane l with queue := front ++ back })).ListHolds
      before r after := listHolds_congr h (by rw [hexit])
  have hahead : (testExit l (s.setLane l { s.lane l with queue := front ++ back })).Ahead
      r.runoutPoint := by
    unfold State.Ahead
    simp only [testExit_frame]
    exact ha
  have hremoved : modifyLane l (·.removeReserved r.item) s =
      s.setLane l { s.lane l with queue := front ++ back } :=
    congrArg (s.setLane l) (removeReserved_of_queue hq he hd hx)
  have hout := enterRunout_of_listHolds hlist .cancelled hahead
  rw [withList_eq, hexit] at hout
  rw [answerCancel_of_listHolds h, hw]
  dsimp only
  unfold answerCancelReserved
  rw [hl]
  dsimp only
  rw [if_pos hholds, cancelReserved, hremoved, hout]
  exact replyCancel_runout (tracked_of_listHolds (r := { r with
    state := .runout, reason := some .cancelled, lane := none, firePos := none
    runoutArm := .armed }) ⟨rfl, h.2⟩) rfl false

end

theorem refuseCancel_eq (f : Frame) (st : Status) (item : Nat) (s : State) :
    ∃ m : Bool, refuseCancel f st item s = ({ s with freeCount := s.freeCount + 1 }.answered
      f st (leBytes 2 item ++ flagByte m :: s.itemStateBytes item)) := ⟨_, rfl⟩

theorem answerCancel_untracked {s : State} {item : Nat} (h : s.tracked item = none) (f : Frame) :
    answerCancel item f s = refuseCancel f
      (if (s.pendingRecord item).isSome then .tooLate else .notFound) item s := by
  unfold answerCancel
  rw [h]

/-- Settles O27: by the cases of `answerCancel`. -/
theorem cancelByItemState : Obligations.CancelByItemState := by
  refine ⟨fun s f before after r h hk hp hlist => ?_, fun s f item h hk hp hnone => ?_⟩
  · rw [exec_cancel h hk hp]
    have hlist' : s.taken.ListHolds before r after := hlist
    refine ⟨fun hw ha hdue => congrArg Host.Outcome.next (answerCancel_waiting hlist' hw ha hdue),
      fun dues rest hw ha hafter hnodup hn hb hr hd hrest => ?_,
      fun l front e back hw hl ha hq he hd hx => congrArg Host.Outcome.next
        (answerCancel_reserved hlist' hw hl ha hq he hd hx), fun hw => ?_, fun hw => ?_⟩
    · subst hafter
      refine congrArg Host.Outcome.next ((answerCancel_dues (s := s.taken) hlist.1 hw ha hnodup hn hb
        hr hd hrest).trans ?_)
      have hnext (n : Nat) : s.tracking.decisionCounter + 1 + BitVec.ofNat 16 n =
          s.tracking.decisionCounter + BitVec.ofNat 16 (n + 1) := by
        rw [BitVec.ofNat_add, BitVec.add_assoc, BitVec.add_comm 1]
        rfl
      have hnumbers : numberUnread (s.tracking.decisionCounter + 1) dues =
          dues.zipIdx.map (fun (x : Record × Nat) =>
            x.1.unread (s.tracking.decisionCounter + BitVec.ofNat 16 (x.2 + 2))) := by
        rw [numberUnread_eq]
        exact List.map_congr_left fun x _ => by rw [hnext]
      rw [show s.taken.tracking = s.tracking from rfl, hnext, hnumbers, List.append_assoc]
      rfl
    · rw [answerCancel_of_listHolds hlist', hw]
      exact congrArg Host.Outcome.next (replyCancel_runout (tracked_of_listHolds hlist') hw true)
    · obtain ⟨m, hm⟩ := refuseCancel_eq f .tooLate r.item s.taken
      refine ⟨m, ?_⟩
      rw [answerCancel_of_listHolds hlist', hw]
      dsimp only
      rw [hm, itemStateBytes_tracked (tracked_of_listHolds hlist'), hw]
      rfl
  · rw [exec_cancel h hk hp, answerCancel_untracked (tracked_none (s := s.taken) hnone)]
    refine ⟨fun before r after hpend hitem hb => ?_, fun hpend => ?_⟩
    · subst hitem
      have hsome := pendingRecord_some (s := s.taken) hpend hb
      obtain ⟨m, hm⟩ := refuseCancel_eq f .tooLate r.item s.taken
      refine ⟨m, ?_⟩
      rw [hsome, Option.isSome_some, if_pos rfl, hm,
        itemStateBytes_pending (tracked_none (s := s.taken) hnone) hsome]
      rfl
    · have hno := pendingRecord_none (s := s.taken) hpend
      obtain ⟨m, hm⟩ := refuseCancel_eq f .notFound item s.taken
      refine ⟨m, ?_⟩
      rw [hno, Option.isSome_none, if_neg (by simp), hm,
        itemStateBytes_unknown (tracked_none (s := s.taken) hnone) hno]
      rfl

end Sys2Proof.Machine
end

section
/-! SUPPORT. TRACK_READ, ITEM_READ and FENCE (R72, R73, R136 to R138). -/

namespace Sys2Proof.Machine

theorem exec_trackRead {s : State} {f : Frame} {first : Option Nat} {n : Nat} (h : s.Ready f)
    (hk : f.kind = 0x23) (hp : parseTrackRead f.payload = some (first, n)) :
    exec .trackRead s = .next (answerTrackRead first n f s.taken) :=
  congrArg Host.Outcome.next (onCommand_ready h hk hp)

theorem exec_itemRead {s : State} {f : Frame} {item : Nat} (h : s.Ready f) (hk : f.kind = 0x24)
    (hp : parseItem f.payload = some item) :
    exec .itemRead s = .next (answerItemRead item f s.taken) :=
  congrArg Host.Outcome.next (onCommand_ready h hk hp)

theorem exec_fence {s : State} {f : Frame} {scope : FenceScope} (h : s.Ready f)
    (hk : f.kind = 0x25) (hp : parseFence f.payload = some scope) :
    exec .fence s = .next (answerFence scope f s.taken) :=
  congrArg Host.Outcome.next (onCommand_ready h hk hp)

theorem parseFence_code (scope : FenceScope) : parseFence [scope.code] = some scope := by
  cases scope <;> decide

/-- The reading point is the first record of the number (R72). -/
theorem listFrom_of_listHolds {s : State} {before after : List Record} {r : Record}
    (h : s.ListHolds before r after) : s.listFrom (some r.item) = some (r :: after) := by
  have hskip : s.tracking.list.dropWhile (fun x => decide (x.item ≠ r.item)) = r :: after := by
    rw [h.1, List.dropWhile_append_of_pos fun x hx => by
      simpa using h.2 x (List.mem_append_left _ hx)]
    simp
  unfold State.listFrom
  dsimp only
  rw [hskip]

theorem listFrom_untracked {s : State} {item : Nat} (h : ∀ x ∈ s.tracking.list, x.item ≠ item) :
    s.listFrom (some item) = none := by
  have hskip : s.tracking.list.dropWhile (fun x => decide (x.item ≠ item)) = [] :=
    List.dropWhile_eq_nil_iff.2 fun x hx => by simpa using h x hx
  unfold State.listFrom
  dsimp only
  rw [hskip]

theorem trackFields_eq (s : State) (shown : List Record) (n : Nat) : s.trackFields shown n =
    [byteOf s.tracking.list.length, byteOf (decidedPrefix s.tracking.list).length,
      byteOf (min n shown.length)] ++
      (shown.take n).flatMap (fun r => leBytes 2 r.item ++
        [r.state.code, flagByte r.decisionDue] ++ leBytes 4 r.lead.toNat ++
        [optFinByte r.lane, optCode Reason.code r.reason]) ++
      (match (shown.drop n).head? with
        | some r => 1 :: leBytes 2 r.item
        | none => [0, 0xFF, 0xFF]) := by
  unfold State.trackFields
  rw [List.length_take, List.append_assoc _ [_]]
  cases (shown.drop n).head? with
  | none => rfl
  | some r => rfl

theorem answerTrackRead_shown {s : State} {f : Frame} {first : Option Nat} {n : Nat}
    {shown : List Record} (h : s.listFrom first = some shown) :
    answerTrackRead first n f s = s.answered f .ok (s.trackFields shown n) := by
  unfold answerTrackRead
  rw [h]
  rfl

theorem answerItemRead_tracked {s : State} {f : Frame} {item : Nat} {r : Record}
    (h : s.tracked item = some r) :
    answerItemRead item f s = s.answered f .ok (r.fields 0) := by
  unfold answerItemRead
  rw [h]
  rfl

theorem answerItemRead_pending {s : State} {f : Frame} {item : Nat} {r : Record}
    (h : s.tracked item = none) (hp : s.pendingRecord item = some r) :
    answerItemRead item f s = s.answered f .ok (r.fields 1) := by
  unfold answerItemRead
  rw [h, hp]
  rfl

theorem answerItemRead_unknown {s : State} {f : Frame} {item : Nat}
    (h : s.tracked item = none) (hp : s.pendingRecord item = none) :
    answerItemRead item f s = s.answered f .notFound [] := by
  unfold answerItemRead
  rw [h, hp]
  rfl

/-- Settles O28: a TRACK_READ by its reading point, an ITEM_READ by where the record stands. -/
theorem itemReadsShowTheRecord : Obligations.ItemReadsShowTheRecord := by
  refine ⟨?shown, ?unknown, ?item⟩
  case shown =>
    intro s f n first shown h hk hp hfrom
    have hlist : s.taken.listFrom first = some shown := by
      rcases hfrom with ⟨rfl, rfl⟩ | ⟨before, r, after, hl, rfl, rfl⟩
      · rfl
      · exact listFrom_of_listHolds (s := s) hl
    rw [exec_trackRead h hk hp, answerTrackRead_shown hlist, trackFields_eq]
    rfl
  case unknown =>
    intro s f n item h hk hp hx
    have hlist : s.taken.listFrom (some item) = none := listFrom_untracked (s := s) hx
    rw [exec_trackRead h hk hp, answerTrackRead, hlist]
    rfl
  case item =>
    intro s f item h hk hp
    refine ⟨fun before r after hl hr => ?_, fun hx => ⟨fun before r after hl hr hb => ?_,
      fun hy => ?_⟩⟩
    · subst hr
      rw [exec_itemRead h hk hp, answerItemRead_tracked (s := s.taken) (tracked_of_listHolds hl)]
      rfl
    · subst hr
      rw [exec_itemRead h hk hp, answerItemRead_pending (s := s.taken) (tracked_none hx)
        (pendingRecord_some hl hb)]
      rfl
    · rw [exec_itemRead h hk hp, answerItemRead_unknown (s := s.taken) (tracked_none hx)
        (pendingRecord_none hy)]

theorem answerFence_empty {s : State} {scope : FenceScope} {f : Frame}
    (h : s.scopeRecords scope = []) :
    answerFence scope f s = s.answered f .ok (emptyFenceFields scope) := by
  unfold answerFence
  rw [h]
  rfl

/-- The last record of the scope is the boundary (R137). -/
theorem answerFence_boundary {s : State} {scope : FenceScope} {f : Frame} {front : List Record}
    {r : Record} (h : s.scopeRecords scope = front ++ [r]) : answerFence scope f s =
    if s.tracking.fences.length < 4 then
      s.setTracking { s.tracking with
        fences := s.tracking.fences ++
          [{ tag := f.tag, scope, boundary := r.item, covered := (s.covered r.item).length,
             remaining := (s.covered r.item).length }] }
    else s.answered f .full [scope.code, byteOf s.tracking.fences.length] := by
  unfold answerFence
  rw [h, List.getLast?_concat]
  rfl

/-- Settles O29: an empty scope, a full fence list, a fence taken. -/
theorem fenceByCase : Obligations.FenceByCase := by
  intro s f scope reached h hk hp hreached
  have hscope : s.taken.scopeRecords scope = reached := by
    rw [hreached]
    cases scope with
    | all => rfl
    | decided => rfl
  have hexec := exec_fence h hk (by rw [hp, parseFence_code])
  refine ⟨fun he => ?_, fun front r he => ⟨fun hfull => ?_, fun hroom => ?_⟩⟩
  · rw [hexec, answerFence_empty (hscope.trans he)]
    rfl
  · have htaken : s.taken.tracking.fences.length = 4 := hfull
    rw [hexec, answerFence_boundary (hscope.trans he), htaken]
    rfl
  · rw [hexec, answerFence_boundary (hscope.trans he),
      if_pos (by simpa only [taken_blocks] using hroom)]
    simp only [State.covered, taken_blocks, List.countP_eq_length_filter]
    rfl

end Sys2Proof.Machine
end

section
/-! SUPPORT. The route table's writes, its probe and its clearing (R77 to R91). -/

namespace Sys2Proof.Machine

/-! ## First index that satisfies a test -/

theorem finRange_find_some {n : Nat} {p : Fin n → Bool} {i : Fin n} :
    (List.finRange n).find? p = some i ↔ p i = true ∧ ∀ j < i, ¬ p j = true := by
  have h := List.find?_ofFn_eq_some_of_injective (f := fun j : Fin n => j) (p := p) (i := i)
    fun _ _ h => h
  rwa [List.ofFn_eq_map, List.map_id'] at h

theorem conflict_some {t : RouteTable} {i j : Fin 32} {e : RouteEntry} (hne : j ≠ i)
    (hv : t.entries[j].valid = true) (ho : t.entries[j].overlaps e = true)
    (hlow : ∀ k : Fin 32, k < j → k ≠ i → t.entries[k].valid = true →
      t.entries[k].overlaps e = false) : t.conflict i e = some j := by
  unfold RouteTable.conflict
  rw [finRange_find_some]
  refine ⟨by simpa [hne] using And.intro hv ho, fun k hk => ?_⟩
  simpa using fun hki hkv => hlow k hk hki hkv

theorem freeIndex_some {t : RouteTable} {i : Fin 32} (hi : t.entries[i].valid = false)
    (hlow : ∀ k : Fin 32, k < i → t.entries[k].valid = true) : t.freeIndex = some i := by
  unfold RouteTable.freeIndex
  rw [finRange_find_some]
  exact ⟨by simpa using hi, fun k hk => by simpa using hlow k hk⟩

theorem freeIndex_none {t : RouteTable} (h : ∀ k : Fin 32, t.entries[k].valid = true) :
    t.freeIndex = none := by
  unfold RouteTable.freeIndex
  simpa using h

/-- The cursor's order is the order of the distances from the cursor (R83). -/
theorem unlockedIndex_some {t : RouteTable} {i : Fin 32} (hi : t.entries[i].locked = false)
    (hlow : ∀ k : Fin 32, k - t.cursor < i - t.cursor → t.entries[k].locked = true) :
    t.unlockedIndex = some i := by
  have hdist : t.cursor + (i - t.cursor) = i := by omega
  have h := List.find?_ofFn_eq_some_of_injective (f := fun k : Fin 32 => t.cursor + k)
    (p := fun i : Fin 32 => !t.entries[i].locked) (i := i - t.cursor) fun _ _ h => by
      simpa using h
  rw [List.ofFn_eq_map, hdist] at h
  refine h.2 ⟨by simpa using hi, fun j hj => ?_⟩
  have hback : t.cursor + j - t.cursor = j := by omega
  have := hlow (t.cursor + j) (by rwa [hback])
  simp only [this, Bool.not_true, Bool.false_eq_true, not_false_eq_true]

theorem unlockedIndex_none {t : RouteTable} (h : ∀ k : Fin 32, t.entries[k].locked = true) :
    t.unlockedIndex = none := by
  unfold RouteTable.unlockedIndex
  simp only [List.find?_eq_none, List.mem_map]
  rintro x ⟨k, _, rfl⟩
  simp only [h, Bool.not_true, Bool.false_eq_true, not_false_eq_true]

/-- Where ROUTE_WRITE_NEXT places its entry (R83). -/
theorem nextIndex_some {t : RouteTable} {i : Fin 32} {replaced : Bool}
    (h : replaced = false ∧ t.entries[i].valid = false ∧
        (∀ k : Fin 32, k < i → t.entries[k].valid = true) ∨
      replaced = true ∧ (∀ k : Fin 32, t.entries[k].valid = true) ∧
        t.entries[i].locked = false ∧
        ∀ k : Fin 32, k - t.cursor < i - t.cursor → t.entries[k].locked = true) :
    t.nextIndex = some (i, replaced) := by
  unfold RouteTable.nextIndex
  rcases h with ⟨rfl, hi, hlow⟩ | ⟨rfl, hall, hi, hlow⟩
  · rw [freeIndex_some hi hlow]
    rfl
  · rw [freeIndex_none hall, unlockedIndex_some hi hlow]
    rfl

theorem nextIndex_none {t : RouteTable}
    (h : ∀ k : Fin 32, t.entries[k].valid = true ∧ t.entries[k].locked = true) :
    t.nextIndex = none := by
  unfold RouteTable.nextIndex
  rw [freeIndex_none fun k => (h k).1, unlockedIndex_none fun k => (h k).2]
  rfl

/-! ## ROUTE_WRITE and ROUTE_WRITE_NEXT -/

theorem exec_routeWrite {s : State} {f : Frame} {i : Fin 32} {e : RouteEntry} (h : s.Ready f)
    (hk : f.kind = 0x28) (hp : parseRouteWrite f.payload = some (i, e)) :
    exec .routeWrite s = .next (answerRouteWrite i e f s.taken) :=
  congrArg Host.Outcome.next (onCommand_ready h hk hp)

theorem exec_routeWriteNext {s : State} {f : Frame} {e : RouteEntry} (h : s.Ready f)
    (hk : f.kind = 0x29) (hp : parseRouteWriteNext f.payload = some e) :
    exec .routeWriteNext s = .next (answerRouteWriteNext e f s.taken) :=
  congrArg Host.Outcome.next (onCommand_ready h hk hp)

section
variable {s : State} {f : Frame} {i j : Fin 32} {e : RouteEntry} {replaced : Bool}

theorem answerRouteWrite_free (h : s.routes.conflict i e = none) :
    answerRouteWrite i e f s =
      (s.setRoutes (s.routes.put i e)).answered f .ok (byteOf i.val :: e.bytes) := by
  unfold answerRouteWrite
  rw [h]
  rfl

theorem answerRouteWrite_overlap (h : s.routes.conflict i e = some j) :
    answerRouteWrite i e f s = s.answered f .overlap [byteOf j.val] := by
  unfold answerRouteWrite
  rw [h]
  rfl

theorem answerRouteWriteNext_free (hn : s.routes.nextIndex = some (i, replaced))
    (h : s.routes.conflict i e = none) : answerRouteWriteNext e f s =
      (s.setRoutes (s.routes.writeNext i replaced e)).answered f .ok
        (byteOf i.val :: flagByte replaced :: e.bytes) := by
  unfold answerRouteWriteNext
  rw [hn]
  dsimp only
  rw [h]
  rfl

theorem answerRouteWriteNext_overlap (hn : s.routes.nextIndex = some (i, replaced))
    (h : s.routes.conflict i e = some j) :
    answerRouteWriteNext e f s = s.answered f .overlap [byteOf j.val] := by
  unfold answerRouteWriteNext
  rw [hn]
  dsimp only
  rw [h]
  rfl

theorem answerRouteWriteNext_full (hn : s.routes.nextIndex = none) :
    answerRouteWriteNext e f s = s.answered f .full [] := by
  unfold answerRouteWriteNext
  rw [hn]
  rfl

end

/-- Settles O30: each write by the index it chooses and the first entry that overlaps there. -/
theorem routeWritesByOverlap : Obligations.RouteWritesByOverlap := by
  refine ⟨fun s f i e h hk hp => ⟨fun hfree => ?_, fun j hji hv ho hlow => ?_⟩,
    fun s f e h hk hp => ⟨fun i replaced hnext => ⟨fun hfree => ?_, fun j hji hv ho hlow => ?_⟩,
      fun hfull => ?_⟩⟩
  · rw [exec_routeWrite h hk hp,
      answerRouteWrite_free (s := s.taken) (RouteTable.conflict_none.2 hfree)]
    rfl
  · rw [exec_routeWrite h hk hp,
      answerRouteWrite_overlap (s := s.taken) (conflict_some hji hv ho hlow)]
  · rw [exec_routeWriteNext h hk hp, answerRouteWriteNext_free (s := s.taken)
      (nextIndex_some hnext) (RouteTable.conflict_none.2 hfree)]
    rfl
  · rw [exec_routeWriteNext h hk hp, answerRouteWriteNext_overlap (s := s.taken)
      (nextIndex_some hnext) (conflict_some hji hv ho hlow)]
  · rw [exec_routeWriteNext h hk hp, answerRouteWriteNext_full (s := s.taken)
      (nextIndex_none hfull)]

/-! ## ROUTE_PROBE -/

/-- Two entries that match one key differ only in key bits that one of them masks (R77, R79). -/
theorem masked_xor_of_match {k ka kb ma mb : Key} (ha : k &&& ~~~ma = ka &&& ~~~ma)
    (hb : k &&& ~~~mb = kb &&& ~~~mb) : (ka ^^^ kb) &&& ~~~(ma ||| mb) = 0 := by
  apply BitVec.eq_of_getLsbD_eq
  intro n hn
  have hna := congrArg (fun x : Key => x.getLsbD n) ha
  have hnb := congrArg (fun x : Key => x.getLsbD n) hb
  simp only [BitVec.getLsbD_and, BitVec.getLsbD_not, hn, decide_true, Bool.true_and] at hna hnb
  simp only [BitVec.getLsbD_and, BitVec.getLsbD_xor, BitVec.getLsbD_not, BitVec.getLsbD_or, hn,
    decide_true, Bool.true_and, BitVec.ofNat_eq_ofNat, BitVec.getLsbD_zero]
  cases hma : ma.getLsbD n <;> cases hmb : mb.getLsbD n <;> simp_all

theorem RouteEntry.matchesKey_iff (e : RouteEntry) (k : Key) (p : Fin 16) :
    e.matchesKey k p = true ↔ e.valid = true ∧ k &&& ~~~e.mask = e.key &&& ~~~e.mask ∧
      (e.allPlans = true ∨ e.plan = p) := by
  simp [RouteEntry.matchesKey, and_assoc]

/-- Two entries that one key matches under one plan overlap (R79). -/
theorem overlaps_of_matchesKey {a b : RouteEntry} {k : Key} {p : Fin 16}
    (ha : a.matchesKey k p = true) (hb : b.matchesKey k p = true) : a.overlaps b = true := by
  obtain ⟨_, hka, hpa⟩ := (RouteEntry.matchesKey_iff a k p).1 ha
  obtain ⟨_, hkb, hpb⟩ := (RouteEntry.matchesKey_iff b k p).1 hb
  have hplan : a.allPlans = true ∨ b.allPlans = true ∨ a.plan = b.plan := by
    rcases hpa with h | h
    · exact .inl h
    · rcases hpb with h' | h'
      · exact .inr (.inl h')
      · exact .inr (.inr (h.trans h'.symm))
  simpa [RouteEntry.overlaps, masked_xor_of_match hka hkb, or_assoc] using hplan

theorem lookup_iff {s : State} (hs : s.RoutesApart) (k : Key) (p : Fin 16) (i : Fin 32) :
    s.routes.lookup k p = some i ↔ s.routes.entries[i].matchesKey k p = true := by
  unfold RouteTable.lookup
  rw [finRange_find_some]
  refine ⟨fun h => h.1, fun h => ⟨h, fun j hj hm => ?_⟩⟩
  have hvalid {x : Fin 32} (hx : s.routes.entries[x].matchesKey k p = true) :
      s.routes.entries[x].valid = true := ((RouteEntry.matchesKey_iff _ k p).1 hx).1
  have hover := hs j i (ne_of_lt hj) (hvalid hm) (hvalid h)
  rw [overlaps_of_matchesKey hm h] at hover
  exact absurd hover (by decide)

theorem exec_routeProbe {s : State} {f : Frame} {k : Key} {p : Option (Fin 16)} (h : s.Ready f)
    (hk : f.kind = 0x2B) (hp : parseRouteProbe f.payload = some (k, p)) :
    exec .routeProbe s = .next (answerRouteProbe k (p.getD s.routes.plan) f s.taken) :=
  congrArg Host.Outcome.next (onCommand_ready h hk hp)

/-- Settles O32: entries apart match one at a time, so the first match is the match. -/
theorem oneEntryMatches : Obligations.OneEntryMatches := by
  refine ⟨fun s k p i hs => lookup_iff hs k p i, fun s f k p h hk hp => ?_⟩
  have hroutes : s.taken.routes = s.routes := rfl
  rw [exec_routeProbe h hk hp, answerRouteProbe, hroutes]
  cases s.routes.lookup k (p.getD s.routes.plan) with
  | none => rfl
  | some i => rfl

end Sys2Proof.Machine
end

section
/-! SUPPORT. ROUTE_CLEAR, PLAN_SELECT, GROUP_SET and a group's search (R89 to R100, R120). -/

namespace Sys2Proof.Machine

/-! ## ROUTE_CLEAR and PLAN_SELECT -/

theorem exec_routeClear {s : State} {f : Frame} {c : ClearScope} (h : s.Ready f)
    (hk : f.kind = 0x2C) (hp : parseRouteClear f.payload = some c) :
    exec .routeClear s = .next ((s.taken.setRoutes (s.routes.clear c)).answered f .ok
      [byteOf (s.routes.clearCount c)]) :=
  congrArg Host.Outcome.next (onCommand_ready h hk hp)

theorem exec_planSelect {s : State} {f : Frame} {p : Fin 16} (h : s.Ready f)
    (hk : f.kind = 0x2D) (hp : parsePlan f.payload = some p) :
    exec .planSelect s = .next ((s.taken.setRoutes { s.routes with plan := p }).answered f .ok
      [byteOf s.routes.plan.val, byteOf p.val]) :=
  congrArg Host.Outcome.next (onCommand_ready h hk hp)

theorem parseRouteClear_one (i : Fin 32) : parseRouteClear [byteOf i.val] = some (.one i) := by
  have hindex : fieldAt [byteOf i.val] 0 1 = i.val := fieldAt_index (by decide) i
  have hu : i.val ≠ 0x20 := by omega
  have he : i.val ≠ 0x21 := by omega
  simp [parseRouteClear, lengthIs, hindex, hu, he]

theorem parsePlan_index (p : Fin 16) : parsePlan [byteOf p.val] = some p := by
  have hindex : fieldAt [byteOf p.val] 0 1 = p.val := fieldAt_index (by decide) p
  simp [parsePlan, lengthIs, hindex]

theorem answered_routes (s : State) (f : Frame) (st : Status) (b : List Byte) :
    (s.answered f st b).routes = s.routes := rfl

theorem clear_frame (t : RouteTable) (c : ClearScope) :
    (t.clear c).plan = t.plan ∧ (t.clear c).cursor = t.cursor := by
  simp only [RouteTable.clear, and_self]

theorem clear_one (t : RouteTable) (i : Fin 32) :
    t.clear (.one i) = { t with entries := t.entries.set i .cleared } := by
  have hentries : (t.clear (.one i)).entries = t.entries.set i .cleared := by
    apply Vector.ext
    intro n hn
    simp [RouteTable.clear, ClearScope.names, Vector.getElem_set, Fin.ext_iff, eq_comm]
  show RouteTable.mk (t.clear (.one i)).entries t.plan t.cursor = _
  rw [hentries]

theorem clearCount_one (t : RouteTable) (i : Fin 32) :
    t.clearCount (.one i) = if t.entries[i].valid then 1 else 0 := by
  have hnames (k : Fin 32) : (ClearScope.names (.one i) t k && t.entries[k].valid) =
      (decide (k = i) && t.entries[i].valid) := by
    by_cases hk : k = i
    · subst hk; rfl
    · simp [ClearScope.names, hk]
  unfold RouteTable.clearCount
  rw [← List.countP_eq_length_filter, List.countP_congr fun k _ => by rw [hnames]]
  cases t.entries[i].valid with
  | false => simp
  | true =>
    simp only [Bool.and_true]
    exact List.count_eq_one_of_mem (List.nodup_finRange 32) (List.mem_finRange i)

/-- ROUTE_CLEAR of the unlocked entries, or of every entry with `all` (R89). -/
def clearMany (all : Bool) : ClearScope := if all then .every else .unlocked

theorem parseRouteClear_many (all : Bool) :
    parseRouteClear [if all then 0x21 else 0x20] = some (clearMany all) := by
  cases all <;> decide

theorem clearMany_names (all : Bool) (t : RouteTable) (i : Fin 32) :
    (clearMany all).names t i = (all || (t.entries[i].valid && !t.entries[i].locked)) := by
  cases all <;> simp [clearMany, ClearScope.names]

theorem clearCount_many (t : RouteTable) (all : Bool) : t.clearCount (clearMany all) =
    (List.finRange 32).countP fun i : Fin 32 =>
      t.entries[i].valid && (all || !t.entries[i].locked) := by
  unfold RouteTable.clearCount
  rw [← List.countP_eq_length_filter]
  refine List.countP_congr fun i _ => ?_
  rw [clearMany_names, Bool.eq_iff_iff]
  cases all <;> cases t.entries[i].valid <;> simp

/-! ## GROUP_SET -/

/-- A set made by or-ing in the bits of the members that satisfy `p`. -/
theorem getLsbD_foldl_or {α : Type} {w : Nat} (p : α → Bool) (bit : α → Nat) (l : List α)
    (acc : BitVec w) {n : Nat} (hn : n < w) :
    (l.foldl (fun acc a => if p a then acc ||| (1#w <<< bit a) else acc) acc).getLsbD n =
      (acc.getLsbD n || l.any fun a => p a && decide (bit a = n)) := by
  induction l generalizing acc with
  | nil => simp
  | cons a l ih =>
    rw [List.foldl_cons, ih, List.any_cons, ← Bool.or_assoc]
    congr 1
    cases p a with
    | false => simp
    | true =>
      have hbit : (1#w <<< bit a).getLsbD n = decide (bit a = n) := by
        rw [← BitVec.twoPow_eq, BitVec.getLsbD_twoPow]
        by_cases h : bit a = n
        · subst h; simp [hn]
        · simp [h]
      simp [hbit]

theorem groupSet_bit (u : LaneUnit) (g : Fin 8) : u.groupSet.getLsbD g.val = u.memberOf g := by
  unfold LaneUnit.groupSet
  rw [getLsbD_foldl_or _ _ _ _ g.isLt, Bool.eq_iff_iff]
  simp [← Fin.ext_iff]

theorem exec_groupSet {s : State} {f : Frame} {l : LaneId} {slots : Vector (Option (Fin 7)) 4}
    (h : s.Ready f) (hk : f.kind = 0x30) (hp : parseGroupSet f.payload = some (l, slots)) :
    exec .groupSet s = .next (answerGroupSet l slots f s.taken) :=
  congrArg Host.Outcome.next (onCommand_ready h hk hp)

theorem answerGroupSet_eq (l : LaneId) (slots : Vector (Option (Fin 7)) 4) (f : Frame)
    (s : State) : answerGroupSet l slots f s =
    (s.setLane l { s.lane l with slots := slots }).answered f .ok
      (byteOf l.val :: (slots.toList.map optFinByte ++
        [LaneUnit.groupSet { s.lane l with slots := slots }])) := by
  unfold answerGroupSet
  dsimp only
  rw [modifyLane_lane_same]
  rfl

/-- Settles O34: what each clearing names, the plan, and the lane's four slots. -/
theorem clearPlanAndGroups : Obligations.ClearPlanAndGroups := by
  refine ⟨fun s f h hk => ⟨fun i hp => ?_, fun all hp => ?_⟩, fun s f p h hk hp => ?_,
    fun s f l slots h hk hp => ?_⟩
  · rw [exec_routeClear h hk (by rw [hp, parseRouteClear_one]), clear_one, clearCount_one]
    cases s.routes.entries[i].valid with
    | false => rfl
    | true => rfl
  · have hexec := exec_routeClear h hk (hp ▸ parseRouteClear_many all)
    rw [clearCount_many] at hexec
    refine ⟨_, hexec, ?_, ?_, fun i => ?_, ?_⟩
    · rw [answered_routes, setRoutes_routes, (clear_frame _ _).1]
    · rw [answered_routes, setRoutes_routes, (clear_frame _ _).2]
    · rw [answered_routes, setRoutes_routes, ← clearMany_names]
      exact RouteTable.clear_entry s.routes (clearMany all) i
    · rw [answered_routes, setRoutes_routes]
      rfl
  · exact exec_planSelect h hk (by rw [hp, parsePlan_index])
  · refine ⟨LaneUnit.groupSet { s.lane l with slots := slots }, fun g => ?_, ?_⟩
    · rw [groupSet_bit, LaneUnit.memberOf]
      congr 1
      rw [decide_eq_decide, Fin.ext_iff]
      rfl
    · rw [exec_groupSet h hk hp, answerGroupSet_eq]
      rfl

/-! ## A group's search -/

theorem members_pairwise (s : State) (g : Fin 8) : (s.members g).Pairwise (· < ·) :=
  List.Pairwise.filter _ (List.pairwise_lt_finRange 16)

/-- In a sorted list the first that satisfies a test is the least that does. -/
theorem find?_le_of_pairwise {l : List LaneId} (h : l.Pairwise (· < ·)) {p : LaneId → Bool}
    {a : LaneId} (ha : l.find? p = some a) {b : LaneId} (hb : b ∈ l) (hpb : p b = true) : a ≤ b := by
  obtain ⟨_, before, after, rfl, hbefore⟩ := List.find?_eq_some_iff_append.1 ha
  rcases List.mem_append.1 hb with hm | hm
  · exact absurd hpb (by simpa using hbefore b hm)
  · rcases List.mem_cons.1 hm with rfl | hm
    · exact le_refl b
    · exact le_of_lt (List.rel_of_pairwise_cons (List.pairwise_append.1 h).2.1 hm)

theorem search_none (s : State) (lead : Word) (g : Fin 8) : s.search lead g = none ↔
    ∀ m ∈ s.members g, s.offerAccepted lead m = false := by
  unfold State.search searchOrder
  rw [List.find?_append, Option.or_eq_none_iff]
  simp only [List.find?_eq_none, List.mem_filter, decide_eq_true_eq, and_imp, Bool.not_eq_true]
  refine ⟨fun ⟨habove, hrest⟩ m hm => ?_, fun h => ⟨fun m hm _ => h m hm, fun m hm _ => h m hm⟩⟩
  rcases lt_or_ge s.cursors[g] m with hc | hc
  · exact habove m hm hc
  · exact hrest m hm hc

/-- The lane a search finds is above the cursor and least there, or the least where none above accepts. -/
theorem search_some {s : State} {lead : Word} {g : Fin 8} {l : LaneId}
    (h : s.search lead g = some l) :
    l ∈ s.members g ∧ s.offerAccepted lead l = true ∧
      ∀ m ∈ s.members g, s.offerAccepted lead m = true →
        (s.cursors[g] < l → s.cursors[g] < m → l ≤ m) ∧
        (l ≤ s.cursors[g] → m ≤ s.cursors[g] ∧ l ≤ m) := by
  unfold State.search searchOrder at h
  rw [List.find?_append, Option.or_eq_some_iff] at h
  rcases h with habove | ⟨hnone, hrest⟩
  · obtain ⟨hm, hc⟩ := List.mem_filter.1 (List.mem_of_find?_eq_some habove)
    have hc : s.cursors[g] < l := by simpa using hc
    refine ⟨hm, List.find?_some habove, fun m hmm ha => ⟨fun _ hcm => ?_, fun hle => ?_⟩⟩
    · exact find?_le_of_pairwise ((members_pairwise s g).filter _) habove
        (List.mem_filter.2 ⟨hmm, by simpa using hcm⟩) ha
    · exact absurd hc (not_lt.2 hle)
  · obtain ⟨hm, hc⟩ := List.mem_filter.1 (List.mem_of_find?_eq_some hrest)
    have hc : l ≤ s.cursors[g] := by simpa using hc
    refine ⟨hm, List.find?_some hrest, fun m hmm ha => ⟨fun hlt => ?_, fun _ => ?_⟩⟩
    · exact absurd hc (not_le.2 hlt)
    · have hcm : m ≤ s.cursors[g] := by
        refine not_lt.1 fun hlt => ?_
        exact List.find?_eq_none.1 hnone m (List.mem_filter.2 ⟨hmm, by simpa using hlt⟩) ha
      exact ⟨hcm, find?_le_of_pairwise ((members_pairwise s g).filter _) hrest
        (List.mem_filter.2 ⟨hmm, by simpa using hcm⟩) ha⟩

/-- Settles O35: a search reads two sorted halves of the members; a lane accepts by four conditions. -/
theorem searchGoesRoundRobin : Obligations.SearchGoesRoundRobin :=
  ⟨fun s lead g => ⟨fun _ h => search_some h, search_none s lead g⟩, LaneUnit.accepts_iff⟩

end Sys2Proof.Machine
end

section
/-! SUPPORT. The exit test, the closing of a lane and the fence action (R63, R116 to R119). -/

namespace Sys2Proof.Machine

/-! ## Writing one lane -/

theorem setLane_self (s : State) (l : LaneId) : s.setLane l (s.lane l) = s := by
  have hlanes : s.lanes.set l (s.lane l) = s.lanes := by simp [State.lane]
  rw [State.setLane, hlanes]
  rfl

theorem setLane_setLane (s : State) (l : LaneId) (u v : LaneUnit) :
    (s.setLane l u).setLane l v = s.setLane l v := by
  have hlanes : (s.lanes.set l u).set l v = s.lanes.set l v := by simp
  show s.setLanes ((s.lanes.set l u).set l v) = _
  rw [hlanes]
  rfl

theorem modifyLane_setLane (s : State) (l : LaneId) (u : LaneUnit) (f : LaneUnit → LaneUnit) :
    modifyLane l f (s.setLane l u) = s.setLane l (f u) := by
  rw [modifyLane, setLane_lane_same, setLane_setLane]

/-! ## The exit test -/

theorem testExit_drained {s : State} {l : LaneId} (hs : (s.lane l).state = .draining)
    (hq : (s.lane l).queue = []) (hp : (s.lane l).phase ≠ .extend) :
    testExit l s = handEvent (.lane l .drained) s.position.count
      (s.setLane l { s.lane l with state := .disabled }) := by
  have hexit : (s.lane l).exitState = .disabled := by simp [LaneUnit.exitState, hs, hq, hp]
  unfold testExit
  dsimp only
  rw [if_pos ⟨hs, hexit⟩, hexit]

/-- Out of DRAINING the exit test changes the state and hands no event on. -/
theorem testExit_quiet {s : State} {l : LaneId}
    (h : (s.lane l).state ≠ .draining ∨ (s.lane l).exitState ≠ .disabled) :
    testExit l s = s.setLane l { s.lane l with state := (s.lane l).exitState } := by
  unfold testExit
  dsimp only
  exact if_neg fun ⟨hs, he⟩ => h.elim (· hs) (· he)

theorem testExit_closing {s : State} {l : LaneId} {target : ClosingTarget}
    (hs : (s.lane l).state = .closing target) :
    testExit l s = s.setLane l { s.lane l with
      state := if (s.lane l).queue = [] then target.state else .closing target } := by
  have hexit : (s.lane l).exitState =
      if (s.lane l).queue = [] then target.state else .closing target := by
    rw [LaneUnit.exitState, hs]
  rw [testExit_quiet (.inl (by rw [hs]; exact fun h => nomatch h)), hexit]

theorem testExit_of_stays {s : State} {l : LaneId}
    (h : (s.lane l).exitState = (s.lane l).state) (hd : (s.lane l).state = .draining →
      (s.lane l).exitState ≠ .disabled) : testExit l s = s := by
  have hquiet : (s.lane l).state ≠ .draining ∨ (s.lane l).exitState ≠ .disabled := by
    by_cases hs : (s.lane l).state = .draining
    · exact .inr (hd hs)
    · exact .inl hs
  rw [testExit_quiet hquiet, h]
  exact setLane_self s l

/-- A lane whose exit is not yet open, or that is neither draining nor closing, stays. -/
theorem exitState_stays {u : LaneUnit}
    (hd : u.state ≠ .draining ∨ u.queue ≠ [] ∨ u.phase = .extend)
    (hc : (∀ target : ClosingTarget, u.state ≠ .closing target) ∨ u.queue ≠ []) :
    u.exitState = u.state ∧ (u.state = .draining → u.exitState ≠ .disabled) := by
  unfold LaneUnit.exitState
  cases hs : u.state with
  | draining =>
    have hstay : ¬ (u.queue = [] ∧ u.phase ≠ .extend) := by
      rcases hd with h | h | h
      · exact absurd hs h
      · exact fun ⟨hq, _⟩ => h hq
      · exact fun ⟨_, hp⟩ => hp h
    simp [hstay]
  | closing target =>
    have hq : u.queue ≠ [] := hc.resolve_left fun h => h target hs
    simp [hq]
  | enabled => simp
  | disabled => simp
  | fenced => simp

/-! ## Withdrawing the RESERVED entries -/

/-- A record as a withdrawal leaves it, its run-out ahead (R63). -/
def Record.withdrawn (r : Record) : Record := r.toRunout .withdrawn .armed

/-- The list once the items of some entries have been withdrawn, where their run-outs are ahead. -/
def withdrawItems (es : List Entry) (list : List Record) : List Record :=
  list.map fun r => if es.any fun e => decide (e.item = r.item) then r.withdrawn else r

theorem enterRunout_withdrawn {s : State} (item : Nat)
    (h : ∀ r ∈ s.tracking.list, item = r.item → s.Ahead r.runoutPoint) :
    enterRunout item .withdrawn s = s.withList
      (s.tracking.list.map fun r => if r.item = item then r.withdrawn else r) := by
  unfold enterRunout
  cases hr : s.tracked item with
  | none =>
    have hne : ∀ r ∈ s.tracking.list, r.item ≠ item := by simpa [State.tracked] using hr
    have hsame : (s.tracking.list.map fun r => if r.item = item then r.withdrawn else r) =
        s.tracking.list := by
      conv_rhs => rw [← List.map_id s.tracking.list]
      exact List.map_congr_left fun r hm => by simp [hne r hm]
    rw [hsame]
    rfl
  | some r =>
    have hitem : r.item = item := by simpa using List.find?_some hr
    have harm := armAt_of_ahead (h r (List.mem_of_find?_eq_some hr) hitem.symm)
    dsimp only
    rw [harm, if_neg (by decide)]
    rfl

theorem withdrawItems_cons (e : Entry) (es : List Entry) (list : List Record) :
    withdrawItems es (list.map fun r => if r.item = e.item then r.withdrawn else r) =
      withdrawItems (e :: es) list := by
  unfold withdrawItems
  rw [List.map_map]
  refine List.map_congr_left fun r _ => ?_
  by_cases he : r.item = e.item
  · have hagain : r.withdrawn.withdrawn = r.withdrawn := rfl
    simp [he, hagain]
  · simp [he, Ne.symm he]

theorem foldl_enterRunout_withdrawn (es : List Entry) (s : State)
    (h : ∀ r ∈ s.tracking.list, ∀ e ∈ es, e.item = r.item → s.Ahead r.runoutPoint) :
    es.foldl (fun t e => enterRunout e.item .withdrawn t) s =
      s.withList (withdrawItems es s.tracking.list) := by
  induction es generalizing s with
  | nil =>
    have hsame : withdrawItems [] s.tracking.list = s.tracking.list := by simp [withdrawItems]
    rw [hsame]
    rfl
  | cons e es ih =>
    rw [List.foldl_cons, enterRunout_withdrawn e.item fun r hr =>
      h r hr e List.mem_cons_self, ih, ← withdrawItems_cons]
    · rfl
    · intro r hr x hx hitem
      obtain ⟨q, hq, rfl⟩ := List.mem_map.1 hr
      have hahead := h q hq x (List.mem_cons_of_mem _ hx)
      by_cases hqe : q.item = e.item
      · rw [if_pos hqe] at hitem ⊢
        exact hahead hitem
      · rw [if_neg hqe] at hitem ⊢
        exact hahead hitem

theorem withdrawItems_reserved (s : State) (l : LaneId) :
    withdrawItems ((s.lane l).queue.filter fun e => !e.diverting) s.tracking.list =
      s.withdrawnList l := by
  unfold withdrawItems State.withdrawnList
  refine List.map_congr_left fun r _ => ?_
  rw [List.any_filter]
  rfl

/-- The RESERVED entries leave and their items run out, the run-outs being ahead (R63, R117). -/
theorem withdrawReserved_of_ahead {s : State} {l : LaneId} (h : s.WithdrawnAhead l) :
    withdrawReserved l s = (s.withList (s.withdrawnList l)).setLane l
      { s.lane l with queue := (s.lane l).queue.filter (·.diverting) } := by
  unfold withdrawReserved
  dsimp only
  rw [foldl_enterRunout_withdrawn, ← withdrawItems_reserved]
  · rfl
  · intro r hr e he
    obtain ⟨hmem, hres⟩ := List.mem_filter.1 he
    exact h r hr e hmem (by simpa using hres)

/-! ## Closing and the fence action -/

theorem cutShort_with (u : LaneUnit) (q : List Entry) (x : LaneState) :
    LaneUnit.cutShort { u with queue := q, state := x } =
      { u.cutShort with queue := q, state := x } := by
  unfold LaneUnit.cutShort LaneUnit.enterRetract LaneUnit.enterSettle
  dsimp only
  by_cases hp : u.phase = .extend
  · rw [if_pos hp, if_pos hp]
    by_cases hr : u.geometry.retractTime = 0
    · rw [if_pos hr, if_pos hr]
      by_cases ht : u.geometry.settleTime = 0
      · rw [if_pos ht, if_pos ht]
      · rw [if_neg ht, if_neg ht]
    · rw [if_neg hr, if_neg hr]
  · rw [if_neg hp, if_neg hp]

/-- A lane closes toward its target, the run-outs of what it withdraws being ahead (R117, R118). -/
theorem enterClosing_of_ahead {s : State} {l : LaneId} (h : s.WithdrawnAhead l)
    (target : ClosingTarget) :
    enterClosing l target s = (s.withList (s.withdrawnList l)).setLane l { (s.lane l).cutShort with
      queue := (s.lane l).queue.filter (·.diverting)
      state := if (s.lane l).queue.filter (·.diverting) = [] then target.state
        else .closing target } := by
  have hlane : (s.setLane l { s.lane l with state := .closing target }).lane l =
      { s.lane l with state := .closing target } := setLane_lane_same ..
  have hahead : (s.setLane l { s.lane l with state := .closing target }).WithdrawnAhead l := by
    unfold State.WithdrawnAhead
    rw [hlane]
    exact h
  have hlist : (s.setLane l { s.lane l with state := .closing target }).withdrawnList l =
      s.withdrawnList l := by
    unfold State.withdrawnList
    rw [hlane]
    rfl
  have hwithdrawn : withdrawReserved l (s.setLane l { s.lane l with state := .closing target }) =
      (s.withList (s.withdrawnList l)).setLane l { s.lane l with
        queue := (s.lane l).queue.filter (·.diverting), state := .closing target } := by
    rw [withdrawReserved_of_ahead hahead, hlist, hlane]
    exact setLane_setLane (s.withList (s.withdrawnList l)) l _ _
  show testExit l (modifyLane l (·.cutShort)
    (withdrawReserved l (s.setLane l { s.lane l with state := .closing target }))) = _
  rw [hwithdrawn, modifyLane_setLane, cutShort_with (s.lane l),
    testExit_closing (target := target) (by rw [setLane_lane_same]), setLane_lane_same,
    setLane_setLane]

theorem fenceLane_open {s : State} {l : LaneId}
    (h : (s.lane l).state = .enabled ∨ (s.lane l).state = .draining) :
    fenceLane l s = enterClosing l .fenced s := by
  rcases h with h | h
  all_goals
    unfold fenceLane
    rw [h]

/-- Settles O41: the exit test by the lane's state, then the fence action by the lane's state. -/
theorem lanesCloseAndExit : Obligations.LanesCloseAndExit := by
  refine ⟨fun s l => ⟨testExit_drained, fun target hs hq => ?_, fun hd hc => ?_⟩,
    fun s l => ⟨fun ho ha => ?_, fun target hs => ?_, fun hs => ?_, fun hs => ?_⟩⟩
  · rw [testExit_closing hs, if_pos hq]
    cases target with
    | disabled => rfl
    | fenced => rfl
  · obtain ⟨hstay, hdrain⟩ := exitState_stays hd hc
    exact testExit_of_stays hstay hdrain
  · rw [fenceLane_open ho]
    exact enterClosing_of_ahead ha .fenced
  · rw [fenceLane, hs]
    rfl
  · rw [fenceLane, hs]
    rfl
  · rw [fenceLane, hs]

end Sys2Proof.Machine
end

section
/-! SUPPORT. The lane's phases, timers and windows (R125 to R132). -/

namespace Sys2Proof.Machine

/-! ## Phases and timers -/

theorem takeDwellEnd_reached {s : State} {l : LaneId} {p : Word}
    (hp : (s.lane l).phase = .extend)
    (hd : (s.lane l).dwellEnd = some { pos := p, reached := true }) :
    takeDwellEnd l s = testExit l (s.setLane l (s.lane l).enterRetract) := by
  unfold takeDwellEnd
  rw [if_pos ⟨hp, by rw [hd]; rfl⟩]
  rfl

theorem enterSettle_eq (u : LaneUnit) : u.enterSettle =
    if u.geometry.settleTime ≠ 0 then { u with
      phase := .settle, phaseTimer := 0, phaseLength := u.geometry.settleTime }
    else { u with phase := .idle, phaseTimer := 0, phaseLength := 0 } := by
  unfold LaneUnit.enterSettle
  rw [ite_not]

theorem enterRetract_eq (u : LaneUnit) : u.enterRetract =
    if u.geometry.retractTime ≠ 0 then { u with
      dwellEnd := none, phase := .retract, phaseTimer := 0
      phaseLength := u.geometry.retractTime }
    else if u.geometry.settleTime ≠ 0 then { u with
      dwellEnd := none, phase := .settle, phaseTimer := 0, phaseLength := u.geometry.settleTime }
    else { u with dwellEnd := none, phase := .idle, phaseTimer := 0, phaseLength := 0 } := by
  unfold LaneUnit.enterRetract LaneUnit.enterSettle
  simp only [ite_not]

theorem phaseOver_iff (u : LaneUnit) (p : DiverterPhase) : u.phaseOver p = true ↔
    u.phase = p ∧ u.phaseLength ≤ u.phaseTimer := by
  simp [LaneUnit.phaseOver]

theorem exec_retractEnd_over {s : State} {l : LaneId} (h : s.resetHold = none)
    (hp : (s.lane l).phase = .retract) (ht : (s.lane l).phaseLength ≤ (s.lane l).phaseTimer) :
    exec (.retractEnd l) s = .next (s.setLane l (s.lane l).enterSettle) :=
  congrArg Host.Outcome.next (whenDue_due h ((phaseOver_iff _ _).2 ⟨hp, ht⟩) _)

theorem exec_retractEnd_running {s : State} {l : LaneId}
    (ht : (s.lane l).phaseTimer < (s.lane l).phaseLength) :
    exec (.retractEnd l) s = .next s := by
  have hover : (s.lane l).phaseOver .retract = false := by
    rw [← Bool.not_eq_true, phaseOver_iff]
    exact fun h => absurd h.2 (not_le.2 ht)
  exact congrArg Host.Outcome.next (whenDue_not_due hover _)

theorem exec_settleEnd_over {s : State} {l : LaneId} (h : s.resetHold = none)
    (hp : (s.lane l).phase = .settle) (ht : (s.lane l).phaseLength ≤ (s.lane l).phaseTimer) :
    exec (.settleEnd l) s = .next (s.setLane l { s.lane l with
      phase := .idle, phaseTimer := 0, phaseLength := 0 }) :=
  congrArg Host.Outcome.next (whenDue_due h ((phaseOver_iff _ _).2 ⟨hp, ht⟩) _)

theorem fullEdge_active (l : LaneId) (stamp : Word) (s : State) : fullEdge l true stamp s =
    if (s.lane l).geometry.fullDelay = 0 then becomeFull l s
    else s.setLane l { s.lane l with fullTimer := some 0, fullDue := false } := rfl

theorem fullEdge_inactive (l : LaneId) (stamp : Word) (s : State) :
    fullEdge l false stamp s =
      if (s.lane l).full then handEvent (.lane l .free) stamp (s.setLane l { s.lane l with
        full := false, fullTimer := none, fullDue := false })
      else s.setLane l { s.lane l with full := false, fullTimer := none, fullDue := false } := rfl

/-- Settles O37: each phase's end, the full sensor's edges, and the three expiries. -/
theorem laneTimersAndPhases : Obligations.LaneTimersAndPhases := by
  refine ⟨fun s l h => ⟨fun p hp hd => ?_, fun hp ht => ?_, exec_settleEnd_over h, fun _ ht => ?_⟩,
    fun s l stamp => ⟨fun hz => ?_, fun hz => ?_, fullEdge_inactive l stamp s⟩,
    fun s l h => ⟨fun hd => ?_, fun hd => ?_, fun hd => ?_⟩⟩
  · rw [← enterRetract_eq]
    show Host.Outcome.next (whenRunning s (takeDwellEnd l)) = _
    rw [whenRunning_running h, takeDwellEnd_reached hp hd]
    rfl
  · rw [exec_retractEnd_over h hp ht, enterSettle_eq]
    rfl
  · exact exec_retractEnd_running ht
  · exact (fullEdge_active l stamp s).trans (if_pos hz)
  · exact (fullEdge_active l stamp s).trans (if_neg hz)
  · exact congrArg Host.Outcome.next (whenDue_due h hd _)
  · exact congrArg Host.Outcome.next (whenDue_due h hd _)
  · exact congrArg Host.Outcome.next (whenDue_due h (by simpa using hd) _)

/-! ## Windows -/

/-- The one entry of an item leaves the queue (R121). -/
theorem removeEntry_of_queue {u : LaneUnit} {front : List Entry} {e : Entry} {back : List Entry}
    (hq : u.queue = front ++ e :: back) (hx : ∀ x ∈ front ++ back, x.item ≠ e.item) :
    u.removeEntry e.item = { u with queue := front ++ back } := by
  unfold LaneUnit.removeEntry
  rw [hq, filter_item Entry.item front e back hx]

theorem find?_of_front {α : Type} {p : α → Bool} {front : List α} {e : α} {back : List α}
    (hf : ∀ x ∈ front, p x = false) (he : p e = true) :
    (front ++ e :: back).find? p = some e := by
  have hnone : front.find? p = none := List.find?_eq_none.2 fun x hx => by simp [hf x hx]
  rw [List.find?_append, hnone, List.find?_cons_of_pos he]
  rfl

theorem windowHas_iff (e : Entry) (stamp : Word) : e.windowHas stamp = true ↔
    0 ≤ Word.diff stamp e.openPos ∧ Word.diff stamp e.closePos < 0 := by
  simp [Entry.windowHas]

/-- A stamp before the opening or at or after the close is outside the window (R127). -/
theorem windowHas_outside {e : Entry} {stamp : Word}
    (h : Word.diff stamp e.openPos < 0 ∨ 0 ≤ Word.diff stamp e.closePos) :
    e.windowHas stamp = false := by
  rw [← Bool.not_eq_true, windowHas_iff]
  omega

theorem not_credited {e : Entry} {stamp : Word} (h : e.diverting = true →
    Word.diff stamp e.openPos < 0 ∨ 0 ≤ Word.diff stamp e.closePos) :
    (e.diverting && e.windowHas stamp) = false := by
  cases hd : e.diverting with
  | false => rfl
  | true => rw [windowHas_outside (h hd)]; rfl

theorem startJam_eq (u : LaneUnit) (h : u.configured = true) : u.startJam =
    if u.geometry.jamTime = 0 then u else { u with jamTimer := some 0, jamDue := false } := by
  unfold LaneUnit.startJam
  by_cases hj : u.geometry.jamTime = 0
  · simp [hj]
  · simp [h, hj]

/-- A lane as a confirm edge to blocked finds it, the jam watch started (R132). -/
def State.watching (s : State) (l : LaneId) : State := s.setLane l (s.lane l).startJam

theorem startJam_queue (u : LaneUnit) : u.startJam.queue = u.queue := by
  unfold LaneUnit.startJam
  split <;> rfl

theorem watching_removed {s : State} {l : LaneId} {front : List Entry} {e : Entry}
    {back : List Entry} (hq : (s.lane l).queue = front ++ e :: back)
    (hx : ∀ x ∈ front ++ back, x.item ≠ e.item) :
    modifyLane l (·.removeEntry e.item) (s.watching l) =
      s.setLane l { (s.lane l).startJam with queue := front ++ back } := by
  rw [State.watching, modifyLane_setLane,
    removeEntry_of_queue ((startJam_queue _).trans hq) hx]

theorem confirmEdge_credited {s : State} {l : LaneId} {stamp : Word} {e : Entry}
    (hc : (s.lane l).configured = true) (h : (s.lane l).creditedEntry stamp = some e) :
    confirmEdge l true stamp s = creditEntry l e stamp (s.watching l) := by
  unfold confirmEdge
  dsimp only
  rw [if_pos rfl, if_pos hc, h]
  rfl

theorem confirmEdge_stray {s : State} {l : LaneId} {stamp : Word}
    (hc : (s.lane l).configured = true) (h : (s.lane l).creditedEntry stamp = none) :
    confirmEdge l true stamp s = faultOccur .strayItem (some l) (s.watching l) := by
  unfold confirmEdge
  dsimp only
  rw [if_pos rfl, if_pos hc, h]
  rfl

theorem confirmEdge_unconfigured {s : State} {l : LaneId} (stamp : Word)
    (hc : (s.lane l).configured = false) : confirmEdge l true stamp s = s := by
  have hstart : (s.lane l).startJam = s.lane l := by
    rw [LaneUnit.startJam, if_neg (by simp [hc])]
  unfold confirmEdge
  dsimp only
  rw [if_pos rfl, hc, modifyLane, hstart, setLane_self]
  rfl

/-- Settles O38: the window's close, a confirm edge inside and outside the windows, an edge to clear. -/
theorem windowEndsTheEntry : Obligations.WindowEndsTheEntry := by
  refine ⟨fun s l front e back h hq hfront hx hd hc => ?close, fun s l stamp hc => ?blocked,
    fun s l stamp => ⟨confirmEdge_unconfigured stamp, rfl⟩⟩
  case close =>
    have hclosed : (s.lane l).closedEntry = some e := by
      rw [LaneUnit.closedEntry, hq]
      exact find?_of_front (fun x hm => by simpa using hfront x hm) (by simp [hd, hc])
    show Host.Outcome.next (whenRunning s (takeWindowClose l)) = _
    rw [whenRunning_running h, takeWindowClose, hclosed]
    dsimp only
    rw [missEntry, modifyLane, removeEntry_of_queue hq hx]
    rfl
  case blocked =>
    rw [← startJam_eq _ hc]
    refine ⟨fun front e back hq hfront hd ho hcl hx => ?_, fun hout => ?_⟩
    · have hcredited : (s.lane l).creditedEntry stamp = some e := by
        rw [LaneUnit.creditedEntry, hq]
        exact find?_of_front (fun x hm => not_credited (hfront x hm))
          (by rw [hd, (windowHas_iff e stamp).2 ⟨ho, hcl⟩]; rfl)
      show confirmEdge l true stamp s = _
      rw [confirmEdge_credited hc hcredited, creditEntry, watching_removed hq hx]
      rfl
    · have hnone : (s.lane l).creditedEntry stamp = none :=
        List.find?_eq_none.2 fun x hm => by simp [not_credited (hout x hm)]
      exact confirmEdge_stray hc hnone

end Sys2Proof.Machine
end

section
/-! SUPPORT. LANE_CONFIG and LANE_STATE (R114 to R118). -/

namespace Sys2Proof.Machine

/-! ## LANE_CONFIG -/

theorem exec_laneConfig {s : State} {f : Frame} {l : LaneId} {g : Geometry} (h : s.Ready f)
    (hk : f.kind = 0x38) (hp : parseLaneConfig f.payload = some (l, g)) :
    exec .laneConfig s = .next (answerLaneConfig l g f s.taken) :=
  congrArg Host.Outcome.next (onCommand_ready h hk hp)

theorem configurable_iff (u : LaneUnit) : u.configurable = true ↔
    u.state = .disabled ∨ u.state = .fenced := by
  simp [LaneUnit.configurable]

theorem answerLaneConfig_taken {s : State} {l : LaneId} (g : Geometry) (f : Frame)
    (hl : (s.lane l).state = .disabled ∨ (s.lane l).state = .fenced)
    (hb : s.belt.state = .stopped) : answerLaneConfig l g f s =
    (applyLaneConfig l g s).answered f .ok (byteOf l.val :: g.bytes) := by
  unfold answerLaneConfig
  rw [(configurable_iff _).2 hl, hb]
  rfl

theorem answerLaneConfig_refused {s : State} {l : LaneId} (g : Geometry) (f : Frame)
    (h : ((s.lane l).state ≠ .disabled ∧ (s.lane l).state ≠ .fenced) ∨ s.belt.state ≠ .stopped) :
    answerLaneConfig l g f s = s.answered f .badState [] := by
  have hno : ¬ ((s.lane l).configurable && decide (s.belt.state = .stopped)) = true := by
    rw [Bool.and_eq_true, configurable_iff, decide_eq_true_eq]
    tauto
  unfold answerLaneConfig
  rw [if_neg hno]
  rfl

/-- What LANE_CONFIG makes of a lane whose full sensor is `active` (R114, R131). -/
structure LaneConfigured (u v : LaneUnit) (g : Geometry) (active : Bool) : Prop where
  geometry : v.geometry = g
  configured : v.configured = true
  lastFire : v.lastFire = none
  state : v.state = u.state
  slots : v.slots = u.slots
  phase : v.phase = u.phase
  phaseLength : v.phaseLength = u.phaseLength
  queue : v.queue = u.queue
  full : v.full = (u.full || (decide (g.fullDelay = 0) && active))
  jam : v.jam = (u.jam && decide (g.jamTime ≠ 0))

theorem configure_eq (u : LaneUnit) (g : Geometry) : u.configure g = { u with
    geometry := g, configured := true, lastFire := none, lastFireExpiry := .off
    jamTimer := if g.jamTime = 0 then none else u.jamTimer
    jamDue := if g.jamTime = 0 then false else u.jamDue
    jam := if g.jamTime = 0 then false else u.jam } := by
  unfold LaneUnit.configure LaneUnit.rejudgeJam LaneUnit.endJam
  dsimp only
  by_cases hj : g.jamTime = 0
  · simp only [if_pos hj]
  · simp only [if_neg hj]

theorem configure_configured {u : LaneUnit} {g : Geometry} {active : Bool}
    (h : ¬ (g.fullDelay = 0 ∧ active = true ∧ u.full = false)) :
    LaneConfigured u (u.configure g) g active := by
  rw [configure_eq]
  refine ⟨rfl, rfl, rfl, rfl, rfl, rfl, rfl, rfl, ?_, ?_⟩
  · cases hu : u.full with
    | true => rfl
    | false =>
      rw [Bool.false_or, eq_comm, Bool.and_eq_false_iff, decide_eq_false_iff_not]
      cases active with
      | false => exact .inr rfl
      | true => exact .inl fun hz => h ⟨hz, rfl, hu⟩
  · by_cases hj : g.jamTime = 0
    · simp [hj]
    · simp [hj]

theorem configure_full {u : LaneUnit} {g : Geometry} (hz : g.fullDelay = 0) :
    LaneConfigured u { u.configure g with full := true, fullTimer := none, fullDue := false } g
      true := by
  rw [configure_eq]
  refine ⟨rfl, rfl, rfl, rfl, rfl, rfl, rfl, rfl, by simp [hz], ?_⟩
  by_cases hj : g.jamTime = 0
  · simp [hj]
  · simp [hj]

theorem modifyLane_modifyLane (s : State) (l : LaneId) (f g : LaneUnit → LaneUnit) :
    modifyLane l g (modifyLane l f s) = s.setLane l (g (f (s.lane l))) :=
  modifyLane_setLane s l (f (s.lane l)) g

/-- LANE_CONFIG writes one lane, and an event entry where the lane becomes FULL (R114, R131). -/
theorem applyLaneConfig_writes (l : LaneId) (g : Geometry) (s : State) : ∃ v e,
    applyLaneConfig l g s = (s.setLane l v).setEvents e ∧
      LaneConfigured (s.lane l) v g (s.accepted (.fullSensor l)) := by
  unfold applyLaneConfig
  dsimp only
  by_cases hfull : g.fullDelay = 0 ∧ s.accepted (.fullSensor l) = true ∧ (s.lane l).full = false
  · rw [if_pos hfull, becomeFull, handEvent_eq, hfull.2.1, modifyLane_modifyLane]
    exact ⟨_, _, rfl, configure_full hfull.1⟩
  · rw [if_neg hfull]
    exact ⟨_, s.events, rfl, configure_configured hfull⟩

/-- Settles O39: a lane at rest with the belt stopped takes its geometry; any other is refused. -/
theorem laneConfigNeedsRest : Obligations.LaneConfigNeedsRest := by
  intro s f l g h hk hp
  refine ⟨fun hl hb => ?_, fun hno => ?_⟩
  · obtain ⟨v, e, happly, hv⟩ := applyLaneConfig_writes l g s.taken
    have hexec := exec_laneConfig h hk hp
    rw [answerLaneConfig_taken (s := s.taken) g f hl hb, happly] at hexec
    have hlane (m : LaneId) : ((((s.taken.setLane l v).setEvents e).answered f .ok
        (byteOf l.val :: g.bytes)).lane m) = if m = l then v else s.lane m :=
      setLane_lane s.taken l m v
    have hsame := (hlane l).trans (if_pos rfl)
    refine ⟨_, hexec, ?_⟩
    rw [hsame]
    exact ⟨hv.geometry, hv.configured, hv.lastFire, hv.state, hv.slots, hv.phase, hv.phaseLength,
      hv.queue, hv.full, hv.jam, fun m hm => (hlane m).trans (if_neg hm), rfl, rfl⟩
  · rw [exec_laneConfig h hk hp, answerLaneConfig_refused (s := s.taken) g f hno]

/-! ## LANE_STATE -/

theorem onLaneState_ready {s : State} {f : Frame} {l : LaneId} {q : LaneRequest} (h : s.Ready f)
    (hk : f.kind = 0x39) (hp : parseLaneState f.payload = some (l, q))
    (body : LaneId × LaneRequest → Frame → State → State) :
    onFrame (isLaneState q) (withArgs parseLaneState body) s = body (l, q) f s.taken := by
  rw [onFrame_ready h _ _ (by simp [isLaneState, isKind, hk, hp]), withArgs, hp]

theorem parseLaneState_codes : ∀ l : LaneId,
    parseLaneState [byteOf l.val, 0] = some (l, .enable) ∧
    parseLaneState [byteOf l.val, 1] = some (l, .drain) ∧
    parseLaneState [byteOf l.val, 2] = some (l, .disable) := by
  decide

section
variable {s : State} {f : Frame} {l : LaneId} (h : s.Ready f) (hk : f.kind = 0x39)
include h hk

theorem exec_laneStateEnable (hp : f.payload = [byteOf l.val, 0]) :
    exec .laneStateEnable s = .next (answerEnable l f s.taken) :=
  congrArg Host.Outcome.next
    (onLaneState_ready h hk (hp ▸ (parseLaneState_codes l).1) _)

theorem exec_laneStateDrain (hp : f.payload = [byteOf l.val, 1]) :
    exec .laneStateDrain s = .next (answerDrain l f s.taken) :=
  congrArg Host.Outcome.next
    (onLaneState_ready h hk (hp ▸ (parseLaneState_codes l).2.1) _)

theorem exec_laneStateDisable (hp : f.payload = [byteOf l.val, 2]) :
    exec .laneStateDisable s =
      .next (replyLaneState l f .ok [] (disableLane l s.taken)) :=
  congrArg Host.Outcome.next
    (onLaneState_ready h hk (hp ▸ (parseLaneState_codes l).2.2) _)

end

/-- The fields of a lane's reply (R115). -/
def LaneUnit.replyFields (u : LaneUnit) (l : LaneId) : List Byte :=
  [byteOf l.val, u.state.code, u.state.targetByte, byteOf u.queue.length]

theorem replyLaneState_eq {s : State} {l : LaneId} {u : LaneUnit} (hu : s.lane l = u) (f : Frame)
    (status : Status) (more : List Byte) :
    replyLaneState l f status more s = s.answered f status (u.replyFields l ++ more) := by
  subst hu
  rfl

section
variable {s : State} {l : LaneId}

theorem enableCheck_none : s.enableCheck l = none ↔ (s.lane l).configured = true ∧
    s.line.decision < (s.lane l).geometry.fireDistance ∧
    (s.lane l).geometry.fireDistance + (s.lane l).geometry.confirmClose < s.line.runout := by
  unfold State.enableCheck State.fireDistanceOk State.confirmCloseOk
  cases hc : (s.lane l).configured with
  | false => simp
  | true =>
    by_cases hfire : s.line.decision < (s.lane l).geometry.fireDistance
    · by_cases hclose : (s.lane l).geometry.fireDistance +
          (s.lane l).geometry.confirmClose < s.line.runout
      · simp [hfire, hclose]
      · simp [hfire, hclose]
    · simp [hfire]

/-- The code of the first check that fails (R115). -/
theorem enableCheck_code {code : Byte} (h : s.enableCheck l = some code) :
    ((s.lane l).configured = false → code = 5) ∧
    ((s.lane l).configured = true →
      ¬ s.line.decision < (s.lane l).geometry.fireDistance → code = 1) ∧
    ((s.lane l).configured = true →
      s.line.decision < (s.lane l).geometry.fireDistance → code = 2) := by
  unfold State.enableCheck State.fireDistanceOk at h
  refine ⟨fun hc => ?_, fun hc hfire => ?_, fun hc hfire => ?_⟩
  · rw [if_pos hc] at h
    exact (Option.some.inj h).symm
  · rw [if_neg (by simp [hc]), if_pos (by simpa using hfire)] at h
    exact (Option.some.inj h).symm
  · rw [if_neg (by simp [hc]), if_neg (by simpa using hfire)] at h
    split at h
    · exact (Option.some.inj h).symm
    · cases h

theorem answerEnable_closed (f : Frame) (h : (s.lane l).state = .disabled ∨
    (s.lane l).state = .fenced ∨ (s.lane l).state = .draining) :
    answerEnable l f s = enableLane l f s := by
  unfold answerEnable
  rcases h with h | h | h
  all_goals rw [h]

theorem targetByte_of_closed {x : LaneState} (h : x = .disabled ∨ x = .fenced ∨ x = .draining) :
    x.targetByte = 0xFF := by
  rcases h with rfl | rfl | rfl
  all_goals rfl

theorem enableLane_passes (f : Frame) (h : s.enableCheck l = none) : enableLane l f s =
    (s.setLane l { s.lane l with state := .enabled }).answered f .ok
      [byteOf l.val, 0, 0xFF, byteOf (s.lane l).queue.length] := by
  unfold enableLane
  rw [h]
  exact replyLaneState_eq (modifyLane_lane_same ..) f .ok []

/-- The lane byte of a failed check is a free value (log 14). -/
theorem enableLane_refused (f : Frame) {code : Byte} (h : s.enableCheck l = some code) :
    ∃ lane : Byte, (lane = byteOf l.val ∨ lane = 0xFF) ∧ enableLane l f s =
      s.answered f .badState [byteOf l.val, (s.lane l).state.code, (s.lane l).state.targetByte,
        byteOf (s.lane l).queue.length, code, lane, 0xFF] := by
  refine ⟨optFinByte (if Config.enableCheckNamesLane then some l else none), ?_, ?_⟩
  · cases Config.enableCheckNamesLane with
    | false => exact .inr rfl
    | true => exact .inl rfl
  · unfold enableLane
    rw [h]
    rfl

theorem drainLane_drained (hq : (s.lane l).queue = []) (hp : (s.lane l).phase ≠ .extend) :
    drainLane l s = handEvent (.lane l .drained) s.position.count
      (s.setLane l { s.lane l with state := .disabled }) := by
  unfold drainLane modifyLane
  rw [testExit_drained (by rw [setLane_lane_same]) (by rw [setLane_lane_same]; exact hq)
    (by rw [setLane_lane_same]; exact hp), setLane_lane_same, setLane_setLane]
  rfl

theorem drainLane_stays (h : (s.lane l).queue ≠ [] ∨ (s.lane l).phase = .extend) :
    drainLane l s = s.setLane l { s.lane l with state := .draining } := by
  have hlane : (s.setLane l { s.lane l with state := .draining }).lane l =
      { s.lane l with state := .draining } := setLane_lane_same ..
  obtain ⟨hstay, hdrain⟩ := exitState_stays
    (u := (s.setLane l { s.lane l with state := .draining }).lane l)
    (.inr (by rw [hlane]; exact h)) (.inl (by rw [hlane]; exact fun _ hc => nomatch hc))
  exact testExit_of_stays hstay hdrain

theorem answerDrain_refused (f : Frame) (he : (s.lane l).state ≠ .enabled)
    (hd : (s.lane l).state ≠ .draining) :
    answerDrain l f s = s.answered f .badState [byteOf l.val, (s.lane l).state.code,
      (s.lane l).state.targetByte, byteOf (s.lane l).queue.length] := by
  unfold answerDrain
  cases hs : (s.lane l).state with
  | enabled => exact absurd hs he
  | draining => exact absurd hs hd
  | disabled => exact (replyLaneState_eq rfl f .badState []).trans (by rw [← hs]; rfl)
  | fenced => exact (replyLaneState_eq rfl f .badState []).trans (by rw [← hs]; rfl)
  | closing target => exact (replyLaneState_eq rfl f .badState []).trans (by rw [← hs]; rfl)

theorem disableLane_open (ho : (s.lane l).state = .enabled ∨ (s.lane l).state = .draining) :
    disableLane l s = enterClosing l .disabled s := by
  unfold disableLane
  rcases ho with h | h
  all_goals rw [h]

theorem disableLane_closed (h : (s.lane l).state = .disabled ∨
    ∃ target, (s.lane l).state = .closing target) : disableLane l s = s := by
  unfold disableLane
  rcases h with h | ⟨target, h⟩
  all_goals rw [h]

end

/-- Settles O40: the three requests, each by the state it finds. -/
theorem laneStateRequests : Obligations.LaneStateRequests := by
  refine ⟨fun s f l h hk hp => ?enable, fun s f l h hk hp => ?drain,
    fun s f l h hk hp => ?disable⟩
  case enable =>
    have hexec := exec_laneStateEnable h hk hp
    refine ⟨fun hs hpass => ?_, fun hs hfail => ?_, fun hs => ?_, fun target hs => ?_⟩
    · rw [hexec, answerEnable_closed (s := s.taken) f hs,
        enableLane_passes (s := s.taken) f (enableCheck_none.2 hpass)]
      rfl
    · cases hcheck : s.taken.enableCheck l with
      | none => exact absurd (enableCheck_none.1 hcheck) hfail
      | some code =>
        obtain ⟨lane, hlane, hrefused⟩ := enableLane_refused f hcheck
        obtain ⟨h5, h1, h2⟩ := enableCheck_code hcheck
        refine ⟨code, lane, hlane, h5, h1, h2, ?_⟩
        rw [hexec, answerEnable_closed (s := s.taken) f hs, hrefused, taken_lane,
          targetByte_of_closed hs]
    · have hstate : (s.taken.lane l).state = .enabled := hs
      rw [hexec, answerEnable, hstate]
      exact congrArg Host.Outcome.next ((replyLaneState_eq rfl f .ok []).trans
        (by rw [LaneUnit.replyFields, hstate]; rfl))
    · have hstate : (s.taken.lane l).state = .closing target := hs
      rw [hexec, answerEnable, hstate]
      exact congrArg Host.Outcome.next ((replyLaneState_eq rfl f .badState []).trans
        (by rw [LaneUnit.replyFields, hstate]; rfl))
  case drain =>
    have hexec := exec_laneStateDrain h hk hp
    refine ⟨fun hs hq hph => ?_, fun hs hstay => ?_, fun hs => ?_, fun hs => ?_⟩
    · have hstate : (s.taken.lane l).state = .enabled := hs
      rw [hexec, answerDrain, hstate]
      dsimp only
      have hempty : byteOf (s.lane l).queue.length = 0 := by
        rw [hq]
        rfl
      rw [drainLane_drained (s := s.taken) hq hph,
        replyLaneState_eq (by rw [handEvent_lane, setLane_lane_same]), LaneUnit.replyFields]
      dsimp only [taken_lane]
      rw [hempty]
      rfl
    · have hstate : (s.taken.lane l).state = .enabled := hs
      rw [hexec, answerDrain, hstate]
      dsimp only
      rw [drainLane_stays (s := s.taken) hstay, replyLaneState_eq (setLane_lane_same ..)]
      rfl
    · have hstate : (s.taken.lane l).state = .draining := hs
      rw [hexec, answerDrain, hstate]
      exact congrArg Host.Outcome.next ((replyLaneState_eq rfl f .ok []).trans
        (by rw [LaneUnit.replyFields, hstate]; rfl))
    · rw [hexec, answerDrain_refused (s := s.taken) f hs.1 hs.2]
      rfl
  case disable =>
    have hexec := exec_laneStateDisable h hk hp
    refine ⟨fun ho ha => ?_, fun hs => ?_, fun hs => ?_⟩
    · rw [hexec, disableLane_open (s := s.taken) ho,
        enterClosing_of_ahead (s := s.taken) ha .disabled, replyLaneState_eq (setLane_lane_same ..),
        LaneUnit.replyFields]
      dsimp only [taken_lane]
      by_cases hleft : (s.lane l).queue.filter (·.diverting) = []
      · simp only [hleft, if_true]
        rfl
      · simp only [hleft, if_false]
        rfl
    · have hstate : (s.taken.lane l).state = .fenced := hs
      rw [hexec, disableLane, hstate]
      exact congrArg Host.Outcome.next (replyLaneState_eq (modifyLane_lane_same ..) f .ok [])
    · rw [hexec, disableLane_closed (s := s.taken) hs]
      rfl

end Sys2Proof.Machine
end

section
/-! SUPPORT. The fire trigger of the oldest RESERVED entry (R62, R123, R124). -/

namespace Sys2Proof.Machine

theorem oldestReserved_of_queue {u : LaneUnit} {front : List Entry} {e : Entry}
    {back : List Entry} (hq : u.queue = front ++ e :: back)
    (hf : ∀ x ∈ front, x.diverting = true) (he : e.diverting = false) :
    u.oldestReserved = some e := by
  rw [LaneUnit.oldestReserved, hq]
  exact find?_of_front (fun x hx => by simp [hf x hx]) (by simp [he])

/-- The state once lane `l` has fired for `e`, before the triggers it armed are taken (R123). -/
def State.fired (s : State) (l : LaneId) (front : List Entry) (e : Entry) (back : List Entry)
    (dwelt : Bool) (close : Arm) : State :=
  (s.withList (s.tracking.list.map fun r =>
    if r.item = e.item then { r with state := .diverting } else r)).setLane l { s.lane l with
      queue := front ++ { e with diverting := true, fireArm := .off, closeArm := close } :: back
      phase := .extend, phaseTimer := 0, phaseLength := 0
      dwellEnd := some { pos := e.firePos.plus (s.lane l).geometry.dwell, reached := dwelt } }

section
variable {s : State} {l : LaneId} {front : List Entry} {e : Entry} {back : List Entry}

/-- The fire writes the entry, the phase, the dwell-end trigger and the item's state (R123). -/
theorem fired_eq (hq : (s.lane l).queue = front ++ e :: back)
    (hx : ∀ x ∈ front ++ back, x.item ≠ e.item) :
    modifyRecord e.item (fun r => { r with state := .diverting })
      (modifyLane l (fun u => u.fire e s) s) =
    s.fired l front e back (triggerAt s (e.firePos.plus (s.lane l).geometry.dwell)).reached
      (armAt s e.closePos) := by
  have hqueue : ((s.lane l).fire e s).queue = front ++ e.fired s :: back := by
    show (s.lane l).queue.map (fun x => if x.item = e.item then x.fired s else x) = _
    rw [hq, map_item Entry.item (·.fired s) front e back hx]
  have hunit : (s.lane l).fire e s = { s.lane l with
      queue := front ++ e.fired s :: back
      phase := .extend, phaseTimer := 0, phaseLength := 0
      dwellEnd := some (triggerAt s (e.firePos.plus (s.lane l).geometry.dwell)) } := by
    rw [← hqueue]
    rfl
  show modifyRecord e.item _ (s.setLane l ((s.lane l).fire e s)) = _
  rw [hunit]
  rfl

theorem takeDwellEnd_fired_ahead (close : Arm) : takeDwellEnd l (s.fired l front e back false close) =
    s.fired l front e back false close := by
  have hlane : ((s.fired l front e back false close).lane l).dwellEnd =
      some { pos := e.firePos.plus (s.lane l).geometry.dwell, reached := false } := by
    rw [State.fired, setLane_lane_same]
  unfold takeDwellEnd
  rw [hlane, if_neg]
  exact fun h => absurd h.2 (by simp)

/-- The state once the dwell end armed by the fire has been taken where it is reached (R62, R123). -/
def State.dwelled (s : State) (l : LaneId) (front : List Entry) (e : Entry) (back : List Entry)
    (close : Arm) : State :=
  takeDwellEnd l (s.fired l front e back
    (triggerAt s (e.firePos.plus (s.lane l).geometry.dwell)).reached close)

theorem dwelled_ahead (h : s.Ahead (e.firePos.plus (s.lane l).geometry.dwell)) (close : Arm) :
    s.dwelled l front e back close = s.fired l front e back false close := by
  have hreached : (triggerAt s (e.firePos.plus (s.lane l).geometry.dwell)).reached = false := by
    simpa [triggerAt, Word.isReached, State.Ahead] using h
  rw [State.dwelled, hreached, takeDwellEnd_fired_ahead]

theorem exec_dwellEnd_fired (hs : s.resetHold = none)
    (h : ¬ s.Ahead (e.firePos.plus (s.lane l).geometry.dwell)) (close : Arm) :
    exec (.dwellEnd l) (s.fired l front e back true close) =
      .next (s.dwelled l front e back close) := by
  have hreached : (triggerAt s (e.firePos.plus (s.lane l).geometry.dwell)).reached = true := by
    simpa [triggerAt, Word.isReached, State.Ahead] using h
  rw [State.dwelled, hreached]
  exact congrArg Host.Outcome.next (whenRunning_running (by exact hs) _)

theorem dwelled_position (close : Arm) : (s.dwelled l front e back close).position = s.position := by
  rw [State.dwelled]
  simp only [takeDwellEnd_frame]
  rfl

theorem dwelled_queue (close : Arm) : ((s.dwelled l front e back close).lane l).queue =
    front ++ { e with diverting := true, fireArm := .off, closeArm := close } :: back := by
  rw [State.dwelled, takeDwellEnd_lane_queue, State.fired, setLane_lane_same]

theorem fireEntry_eq (hq : (s.lane l).queue = front ++ e :: back)
    (hx : ∀ x ∈ front ++ back, x.item ≠ e.item) : fireEntry l e s =
      takeArmedClose l e (s.dwelled l front e back (armAt s e.closePos)) := by
  rw [fireEntry, fired_eq hq hx]
  rfl

theorem fireEntry_close_ahead (hq : (s.lane l).queue = front ++ e :: back)
    (hx : ∀ x ∈ front ++ back, x.item ≠ e.item) (ha : s.Ahead e.closePos) :
    fireEntry l e s = s.dwelled l front e back .armed := by
  have hahead : (s.dwelled l front e back .armed).Ahead e.closePos := by
    unfold State.Ahead
    rw [dwelled_position]
    exact ha
  rw [fireEntry_eq hq hx, armAt_of_ahead ha, takeArmedClose, armAt_of_ahead hahead]
  exact if_neg (by decide)

/-- An entry whose window is already closed as its diverter fires is a miss (R123, R129). -/
theorem fireEntry_close_reached (hq : (s.lane l).queue = front ++ e :: back)
    (hx : ∀ x ∈ front ++ back, x.item ≠ e.item) (ha : ¬ s.Ahead e.closePos) :
    fireEntry l e s = faultOccur .divertMiss (some l)
      (testExit l (handEvent (.lane l .miss) e.closePos (giveFate e.item .missed none
        ((s.dwelled l front e back .reached).setLane l
          { (s.dwelled l front e back .reached).lane l with queue := front ++ back })))) := by
  have hreached : ¬ (s.dwelled l front e back .reached).Ahead e.closePos := by
    unfold State.Ahead
    rw [dwelled_position]
    exact ha
  have hremoved : ((s.dwelled l front e back .reached).lane l).removeEntry e.item =
      { (s.dwelled l front e back .reached).lane l with queue := front ++ back } := by
    have hqueue := dwelled_queue (s := s) (l := l) (front := front) (e := e) (back := back) .reached
    have hgone := removeEntry_of_queue hqueue hx
    exact hgone
  rw [fireEntry_eq hq hx, armAt_of_not_ahead ha, takeArmedClose, armAt_of_not_ahead hreached,
    if_pos rfl, missEntry, modifyLane, hremoved]

end

/-- Settles O36: a fire with its two armed triggers, and an overrun. -/
theorem fireTriggerByPhase : Obligations.FireTriggerByPhase := by
  refine ⟨fun s l front e back hs hph hq hf hx hd harm => ?fire,
    fun s l front e back hs hph hq hf hx hd harm => ?overrun⟩
  all_goals
    have hexec : exec (.fireTrigger l) s = .next (takeFire l s) :=
      congrArg Host.Outcome.next (whenRunning_running hs _)
    rw [takeFire_of_oldest (oldestReserved_of_queue hq hf hd), if_pos harm] at hexec
  case fire =>
    rw [if_pos hph] at hexec
    refine ⟨fun ha => ⟨s.dwelled l front e back .armed, ⟨fun h => dwelled_ahead h .armed,
      fun h => exec_dwellEnd_fired hs h .armed⟩, ?_⟩,
      fun ha => ⟨s.dwelled l front e back .reached, ⟨fun h => dwelled_ahead h .reached,
      fun h => exec_dwellEnd_fired hs h .reached⟩, ?_⟩⟩
    · rw [hexec, fireEntry_close_ahead hq hx ha]
    · rw [hexec, fireEntry_close_reached hq hx ha]
      rfl
  case overrun =>
    rw [if_neg hph, overrunEntry, modifyLane, removeEntry_of_queue hq hx] at hexec
    refine ⟨hexec, fun before r after hl hr ha => ?_⟩
    have hleft : (s.setLane l { s.lane l with queue := front ++ back }).ListHolds before r after :=
      listHolds_congr hl rfl
    rw [← hr]
    exact enterRunout_of_listHolds hleft .diverterBusy ha

end Sys2Proof.Machine
end

section
/-! SUPPORT. The output pins, the event unit's commands and the transmitter (R160 to R170, R181, R182,
R191). -/

namespace Sys2Proof.Machine

/-! ## The output pins -/

theorem pendingCount_eq (s : State) : s.pendingCount =
    (List.finRange 84).countP fun i : Fin 84 => s.events.entries[i].isSome := by
  rw [State.pendingCount, List.countP_eq_length_filter]

theorem pendingCount_pos (s : State) : 0 < s.pendingCount ↔
    ∃ i : Fin 84, s.events.entries[i].isSome = true := by
  simp [pendingCount_eq, List.countP_pos_iff]

theorem attention_iff (s : State) : s.attention = true ↔
    (∃ f : FaultSource, (s.source f).latched = true ∧ (s.source f).masked = false) ∨
      ∃ i : Fin 84, s.events.entries[i].isSome = true := by
  have hacting (f : FaultSource) : (s.source f).acting = true ↔
      (s.source f).latched = true ∧ (s.source f).masked = false := by
    simp [SourceState.acting]
  rw [State.attention, Bool.or_eq_true, decide_eq_true_eq, unmaskedLatched_iff, pendingCount_pos]
  simp only [hacting]

/-- Settles O43: each pin by whether the part is running. -/
theorem outputPins : Obligations.OutputPins := by
  refine ⟨fun s h => ?running, attention_iff, fun s h => ?held⟩
  case running =>
    have hr : s.running = true := (running_iff s).2 h
    refine ⟨?_, ?_, ?_, fun l => ⟨?_, ?_⟩, ?_⟩
    · simp [State.beltReferencePin, hr]
    · simp [State.brakePin, hr]
    · simp [State.infeedRunPin, hr]
    · simp [State.extendPin, hr]
    · simp [State.retractPin, hr]
    · rw [State.atnPin, if_pos hr]
      cases s.events.activeHigh with
      | false => simp
      | true => simp
  case held =>
    have hr : s.running = false := running_of_held h
    refine ⟨?_, ?_, ?_, ?_, fun l => ⟨?_, ?_⟩⟩
    · simp [State.beltReferencePin, hr]
    · simp [State.brakePin, hr]
    · simp [State.infeedRunPin, hr]
    · simp [State.atnPin, hr]
    · simp [State.extendPin, hr]
    · simp [State.retractPin, hr]

/-! ## An occurrence, EVENT_ENABLE and REPORT_SET -/

theorem handEvent_disabled {s : State} {p : EventPair} (pos : Word)
    (h : s.events.enabled[p.idx] = false) : handEvent p pos s = s := by
  unfold handEvent
  rw [h]
  rfl

theorem handEvent_enabled {s : State} {p : EventPair} (pos : Word)
    (h : s.events.enabled[p.idx] = true) : handEvent p pos s = s.setEvents { s.events with
      entries := s.events.entries.set p.idx (some (nextEntry s.events.entries[p.idx] pos)) } := by
  unfold handEvent
  rw [h]
  rfl

theorem names_lane (a : EnableArgs) (l : LaneId) (ty : LaneEvent) :
    a.names (EventPair.lane l ty).idx =
      (!a.line && a.laneSet.getLsbD l.val && a.types.getLsbD ty.code.val) := by
  have hlt : 5 * l.val + ty.code.val < 80 := by omega
  have hlane : (5 * l.val + ty.code.val) / 5 = l.val := by omega
  have htype : (5 * l.val + ty.code.val) % 5 = ty.code.val := by omega
  simp only [EnableArgs.names, EventPair.idx, if_pos hlt, hlane, htype]

theorem names_line (a : EnableArgs) (ty : LineEvent) :
    a.names (EventPair.line ty).idx = (a.line && a.types.getLsbD ty.code.val) := by
  have hge : ¬ 80 + ty.code.val < 80 := by omega
  have htype : 80 + ty.code.val - 80 = ty.code.val := by omega
  simp only [EnableArgs.names, EventPair.idx, if_neg hge, htype]

theorem exec_eventEnable {s : State} {f : Frame} {a : EnableArgs} (h : s.Ready f)
    (hk : f.kind = 0x48) (hp : parseEventEnable f.payload = some a) :
    exec .eventEnable s = .next ((s.taken.setEvents (s.events.enable a)).answered f .ok
      ((s.events.enable a).matrixBytes ++ [byteOf (s.events.removedBy a)])) :=
  congrArg Host.Outcome.next (onCommand_ready h hk hp)

/-- The marks of the pairs as a set of 84 bits in eleven bytes (R190). -/
def EventUnit.matrix (e : EventUnit) : BitVec 88 :=
  (BitVec.ofFnLE fun i : Fin 84 => e.enabled[i]).setWidth 88

theorem matrix_bit (e : EventUnit) (i : Fin 84) : e.matrix.getLsbD i.val = e.enabled[i] := by
  have hlt : i.val < 88 := by omega
  simp [EventUnit.matrix, hlt]

theorem matrixBytes_eq (e : EventUnit) : e.matrixBytes = leBytes 11 e.matrix.toNat := by
  rw [EventUnit.matrixBytes, setNumber_eq_toNat_ofFnLE, EventUnit.matrix,
    BitVec.toNat_setWidth_of_le (by decide)]

theorem removedBy_eq (e : EventUnit) (a : EnableArgs) : e.removedBy a =
    (List.finRange 84).countP fun i : Fin 84 =>
      e.entries[i].isSome && (e.enable a).entries[i].isNone := by
  rw [EventUnit.removedBy, ← List.countP_eq_length_filter]
  refine List.countP_congr fun i _ => ?_
  rw [EventUnit.enable_entry]
  cases a.names i && !a.on with
  | false => cases e.entries[i] <;> simp
  | true => simp

theorem events_restored (s : State) (marks : Vector Bool 84)
    (entries : Vector (Option EventEntry) 84) :
    { s.setEvents { s.events with enabled := marks, entries := entries } with
      events := { s.events with enabled := s.events.enabled, entries := s.events.entries } } = s :=
  rfl

/-- EVENT_ENABLE writes the marks and the entries alone (R162). -/
theorem enable_restored (s : State) (a : EnableArgs) :
    { s.setEvents (s.events.enable a) with events := { s.events.enable a with
      enabled := s.events.enabled, entries := s.events.entries } } = s := by
  unfold EventUnit.enable
  exact events_restored s _ _

theorem exec_reportSet {s : State} {f : Frame} {r : Option ReportSettings} (h : s.Ready f)
    (hk : f.kind = 0x4A) (hp : parseOrEmpty parseReportSet f.payload = some r) :
    exec .reportSet s = .next (answerReportSet r f s.taken) :=
  congrArg Host.Outcome.next (onCommand_ready h hk hp)

theorem parseReportSet_fields (spacing : Byte) (hold high : Bool) :
    parseReportSet [spacing, flagByte hold, flagByte high] =
      some { spacing := spacing.toNat, hold := hold, activeHigh := high } := by
  cases hold <;> cases high <;> simp [parseReportSet, lengthIs, fieldAt, leNat, flagByte, boolOf]

/-- Settles O50: an occurrence by the pair's mark, the marks' command, the settings' command. -/
theorem eventMarksAndEntries : Obligations.EventMarksAndEntries := by
  refine ⟨fun s p pos => ⟨handEvent_disabled pos, fun hen => ⟨fun hnone => ?_, fun e he => ?_⟩⟩,
    fun s f a h hk hp => ⟨fun p => a.names p.idx, s.taken.setEvents (s.events.enable a),
      (s.events.enable a).matrix, s.events.removedBy a, names_lane a, names_line a, ?_,
      fun p => EventUnit.enable_enabled s.events a p.idx,
      fun p => EventUnit.enable_entry s.events a p.idx, matrix_bit _, removedBy_eq s.events a,
      enable_restored s.taken a⟩,
    fun s f h hk => ⟨s.pendingCount, pendingCount_eq s, fun hp => ?_, fun spacing hold high hp => ?_⟩⟩
  · rw [handEvent_enabled pos hen, hnone]
    rfl
  · rw [handEvent_enabled pos hen, he]
    rfl
  · rw [exec_eventEnable h hk hp, matrixBytes_eq]
  · exact exec_reportSet h hk (by rw [hp]; rfl)
  · rw [exec_reportSet h hk (r := some { spacing := spacing.toNat, hold := hold, activeHigh := high })
      (by rw [hp, parseOrEmpty_of_ne_nil _ (by simp), parseReportSet_fields]; rfl)]
    have hspacing : byteOf spacing.toNat = spacing := byteOf_toNat spacing
    unfold answerReportSet State.reportFields EventUnit.settings
    dsimp only [setEvents_events]
    rw [hspacing]
    rfl

/-! ## The pending pairs in scan order -/

theorem scanDistance_scan (e : EventUnit) (k : Fin 84) :
    e.scanDistance (e.cursor + 1 + k) = k.val := by
  rw [EventUnit.scanDistance, add_sub_cancel_left]

theorem mem_scanOrder (cursor i : Fin 84) : i ∈ scanOrder cursor :=
  List.mem_map.2 ⟨i - (cursor + 1), List.mem_finRange _, by rw [add_sub_cancel]⟩

theorem mem_pendingPairs (s : State) (i : Fin 84) :
    i ∈ s.pendingPairs ↔ s.events.entries[i].isSome = true := by
  rw [State.pendingPairs, List.mem_filter]
  exact and_iff_right (mem_scanOrder _ i)

/-- The pending pairs stand in the order of their distances behind the cursor (R164). -/
theorem pendingPairs_pairwise (s : State) : s.pendingPairs.Pairwise
    fun i j => s.events.scanDistance i < s.events.scanDistance j := by
  refine List.Pairwise.filter _ ?_
  rw [scanOrder, List.pairwise_map]
  exact (List.pairwise_lt_finRange 84).imp fun h => by
    rw [scanDistance_scan, scanDistance_scan]
    exact h

theorem takeEntries_cursor (taken : List (Fin 84)) (e : EventUnit) :
    (taken.foldl EventUnit.takeEntry e).cursor = taken.getLast?.getD e.cursor := by
  induction taken generalizing e with
  | nil => rfl
  | cons i taken ih =>
    rw [List.foldl_cons, ih]
    cases taken with
    | nil => rfl
    | cons j taken => rw [List.getLast?_cons_cons]; rfl

theorem exec_eventRead {s : State} {f : Frame} {n : Nat} (h : s.Ready f) (hk : f.kind = 0x49)
    (hp : parseEventRead f.payload = some n) :
    exec .eventRead s = .next (answerEventRead n f s.taken) :=
  congrArg Host.Outcome.next (onCommand_ready h hk hp)

theorem entryBytes_some {e : EventUnit} {i : Fin 84} {x : EventEntry} (h : e.entries[i] = some x) :
    e.entryBytes i = [pairSource i, pairType i, byteOf x.count] ++ leBytes 4 x.last.toNat := by
  rw [EventUnit.entryBytes, h]
  rfl

theorem entryBytes_none {e : EventUnit} {i : Fin 84} (h : e.entries[i] = none) :
    e.entryBytes i = [] := by
  rw [EventUnit.entryBytes, h]

/-- A pending pair that is not taken stands behind all that are, and the maximum has been taken. -/
theorem pending_not_taken {s : State} {n : Nat} {i : Fin 84}
    (hi : s.events.entries[i].isSome = true) (hnot : i ∉ s.pendingPairs.take n) :
    (s.pendingPairs.take n).length = n ∧ ∀ j ∈ s.pendingPairs.take n,
      s.events.scanDistance j < s.events.scanDistance i := by
  have hsplit := List.take_append_drop n s.pendingPairs
  have hdrop : i ∈ s.pendingPairs.drop n := by
    have hmem := (mem_pendingPairs s i).2 hi
    rw [← hsplit] at hmem
    exact (List.mem_append.1 hmem).resolve_left hnot
  have hlength : n < s.pendingPairs.length := by
    have := List.length_pos_of_mem hdrop
    rw [List.length_drop] at this
    omega
  have hpair := pendingPairs_pairwise s
  rw [← hsplit] at hpair
  exact ⟨by rw [List.length_take]; omega,
    fun j hj => (List.pairwise_append.1 hpair).2.2 j hj i hdrop⟩

/-- Taking entries out writes the entries and the cursor alone (R166). -/
theorem takeEntries_restored (s : State) (taken : List (Fin 84)) :
    { s.setEvents (taken.foldl EventUnit.takeEntry s.events) with
      events := { taken.foldl EventUnit.takeEntry s.events with
        entries := s.events.entries, cursor := s.events.cursor } } = s := by
  have hkeeps : { taken.foldl EventUnit.takeEntry s.events with
      entries := s.events.entries, cursor := s.events.cursor } = s.events :=
    foldl_keeps (fun e : EventUnit => { e with
      entries := s.events.entries, cursor := s.events.cursor }) EventUnit.takeEntry
      (fun _ _ => rfl) taken s.events
  rw [hkeeps]
  rfl

/-- Settles O51: what is taken is the front of the pending pairs in scan order. -/
theorem eventReadTakesInScanOrder : Obligations.EventReadTakesInScanOrder := by
  intro s f n h hk hp
  let taken := s.pendingPairs.take n
  let t := s.taken.setEvents (taken.foldl EventUnit.takeEntry s.events)
  refine ⟨taken, t, t.pendingCount, (pendingPairs_pairwise s).sublist (List.take_sublist _ _),
    fun i hi => (mem_pendingPairs s i).1 (List.mem_of_mem_take hi),
    fun i hi hnot => pending_not_taken hi hnot, List.length_take_le _ _,
    EventUnit.takeEntries_entry taken s.events, takeEntries_cursor taken s.events,
    pendingCount_eq t, ?_, takeEntries_restored s.taken taken⟩
  have hbytes : taken.flatMap s.events.entryBytes = taken.flatMap fun i =>
      match s.events.entries[i] with
      | some e => [pairSource i, pairType i, byteOf e.count] ++ leBytes 4 e.last.toNat
      | none => [] := by
    refine congrArg (List.flatMap · taken) (funext fun i => ?_)
    cases hentry : s.events.entries[i] with
    | some e => exact entryBytes_some hentry
    | none => exact entryBytes_none hentry
  rw [exec_eventRead h hk hp]
  exact congrArg (fun bytes => Host.Outcome.next
    (t.answered f .ok ([byteOf taken.length, byteOf t.pendingCount] ++ bytes))) hbytes

/-! ## The transmitter -/

theorem pendingPairs_of_nearest {s : State} {i : Fin 84} {e : EventEntry}
    (hi : s.events.entries[i] = some e) (hlow : ∀ j : Fin 84,
      s.events.scanDistance j < s.events.scanDistance i → s.events.entries[j] = none) :
    ∃ rest, s.pendingPairs = i :: rest := by
  have hmem : i ∈ s.pendingPairs := (mem_pendingPairs s i).2 (by rw [hi]; rfl)
  cases hpairs : s.pendingPairs with
  | nil => rw [hpairs] at hmem; cases hmem
  | cons j rest =>
    refine ⟨rest, ?_⟩
    rw [hpairs] at hmem
    rcases List.mem_cons.1 hmem with rfl | hrest
    · rfl
    · have hpair := pendingPairs_pairwise s
      rw [hpairs] at hpair
      have hj : s.events.entries[j].isSome = true :=
        (mem_pendingPairs s j).1 (by rw [hpairs]; exact List.mem_cons_self)
      rw [hlow j (List.rel_of_pairwise_cons hpair hrest)] at hj
      cases hj

theorem exec_arbiterTake {s : State} (h : s.resetHold = none) (hidle : s.link.sending = none) :
    exec .arbiterTake s = .next (takeFrame s) :=
  congrArg Host.Outcome.next (whenDue_due h (by rw [hidle]; rfl) _)

theorem eventReady_iff (s : State) : s.eventReady = true ↔ s.events.hold = false ∧
    s.events.spacing ≤ s.events.spacingTimer ∧
      ∃ i : Fin 84, s.events.entries[i].isSome = true := by
  simp [State.eventReady, State.spacingSatisfied, pendingCount_pos, and_assoc]

theorem takeFrame_quiet {s : State} (hr : s.link.replies = []) (hi : s.link.itemReports = [])
    (hf : s.link.faultReports = []) :
    takeFrame s = if s.eventReady then takeEventReport s else s := by
  rw [takeFrame, hr, hi, hf]

theorem takeEventReport_nearest {s : State} {i : Fin 84} {e : EventEntry} {rest : List (Fin 84)}
    (hpairs : s.pendingPairs = i :: rest) (hi : s.events.entries[i] = some e) :
    takeEventReport s = (s.setEvents { s.events with
      entries := s.events.entries.set i none, cursor := i }).setLink { s.link with
        sending := some (.event { pair := i, count := e.count, last := e.last }) } := by
  unfold takeEventReport
  rw [hpairs]
  dsimp only
  rw [hi]

theorem exec_frameSent {s : State} {x : OutFrame} (h : s.resetHold = none)
    (hx : s.link.sending = some x) : exec .frameSent s = .next (frameSent x s) := by
  show Host.Outcome.next (whenRunning s _) = _
  rw [whenRunning_running h, hx]

/-- Settles O57: the arbiter by precedence, the end of each kind of frame. -/
theorem arbiterAndFrameSent : Obligations.ArbiterAndFrameSent := by
  intro s h
  refine ⟨fun hidle => ⟨fun r rest hr => ?_, fun r rest hr hi => ?_, fun r rest hr hi hf => ?_,
    fun hr hi hf => ⟨fun i e hh hs he hlow => ?_, fun hno => ?_⟩⟩, fun hbusy => ?_,
    fun r hx => exec_frameSent h hx, fun r hx => exec_frameSent h hx, fun x hx hfate hevent => ?_,
    rfl⟩
  · rw [exec_arbiterTake h hidle, takeFrame, hr]
    rfl
  · rw [exec_arbiterTake h hidle, takeFrame, hr, hi]
    rfl
  · rw [exec_arbiterTake h hidle, takeFrame, hr, hi, hf]
    rfl
  · obtain ⟨rest, hpairs⟩ := pendingPairs_of_nearest he hlow
    have hready := (eventReady_iff s).2 ⟨hh, hs, i, by rw [he]; rfl⟩
    rw [exec_arbiterTake h hidle, takeFrame_quiet hr hi hf, if_pos hready,
      takeEventReport_nearest hpairs he]
    rfl
  · have hready : ¬ s.eventReady = true := by
      rw [eventReady_iff]
      rintro ⟨hh, hs, i, hi⟩
      rcases hno with hno | hno | hno
      · exact absurd (hh.symm.trans hno) (by decide)
      · omega
      · rw [hno i] at hi
        cases hi
    rw [exec_arbiterTake h hidle, takeFrame_quiet hr hi hf, if_neg hready]
  · have hnot : s.link.sending.isNone = false := by
      cases hx : s.link.sending with
      | none => rw [hx] at hbusy; cases hbusy
      | some x => rfl
    exact congrArg Host.Outcome.next (whenDue_not_due hnot _)
  · rw [exec_frameSent h hx]
    cases x with
    | reply r => rfl
    | fault r => rfl
    | event r => exact absurd rfl (hevent r)
    | item r =>
      cases r with
      | fate r => exact absurd rfl (hfate r)
      | started cause fast => rfl
      | inducted item lead length shortGap => rfl

end Sys2Proof.Machine
end

section
/-! SUPPORT. The receiver, byte by byte (R173 to R176). -/

namespace Sys2Proof.Machine

/-! ## One byte -/

theorem exec_receiveByte {s : State} (h : s.resetHold = none) (b : Byte) (stop : Bool) :
    exec (.receiveByte b stop) s = .next (takeByte b stop (takeGapTimeout s)) :=
  congrArg Host.Outcome.next (whenRunning_running h _)

theorem exec_byteGapTimeout {s : State} (h : s.resetHold = none) :
    exec .byteGapTimeout s = .next (takeGapTimeout s) :=
  congrArg Host.Outcome.next (whenRunning_running h _)

section
variable {s : State} {got : List Byte} {gap : Nat}

theorem takeGapTimeout_hunting (h : s.link.receiver = .hunting) : takeGapTimeout s = s := by
  rw [takeGapTimeout, State.gapTimedOut, h]
  rfl

theorem takeGapTimeout_sound (h : s.link.receiver = .assembling got gap) (hgap : gap < 11) :
    takeGapTimeout s = s := by
  have hdue : s.gapTimedOut = false := by
    rw [State.gapTimedOut, h]
    exact decide_eq_false (not_le.2 hgap)
  rw [takeGapTimeout, hdue]
  rfl

theorem takeGapTimeout_due (h : s.link.receiver = .assembling got gap) (hgap : 11 ≤ gap) :
    takeGapTimeout s = discardFrame s := by
  have hdue : s.gapTimedOut = true := by
    rw [State.gapTimedOut, h]
    exact decide_eq_true hgap
  rw [takeGapTimeout, hdue]
  rfl

theorem takeByte_hunting (h : s.link.receiver = .hunting) (b : Byte) (stop : Bool) :
    takeByte b stop s =
      if stop = true ∧ b = 0xA7 then setReceiver (.assembling [] 0) s else s := by
  rw [takeByte, h]

theorem takeByte_broken (h : s.link.receiver = .assembling got gap) (b : Byte) :
    takeByte b false s = discardFrame s := by
  rw [takeByte, h]
  rfl

theorem takeByte_sound (h : s.link.receiver = .assembling got gap) (b : Byte) :
    takeByte b true s = extendFrame got b s := by
  rw [takeByte, h]
  rfl

end

/-! ## A byte of a frame -/

theorem extendFrame_length {b : Byte} (s : State) (h : 2 ≤ b.toNat ∧ b.toNat ≤ 242) :
    extendFrame [] b s = setReceiver (.assembling [b] 0) s := if_pos h

theorem extendFrame_bad_length {b : Byte} (s : State) (h : b.toNat < 2 ∨ 242 < b.toNat) :
    extendFrame [] b s = discardFrame s := if_neg (by omega)

/-- A byte before the last joins the frame (R174). -/
theorem extendFrame_inside {n : Byte} {tail : List Byte} (b : Byte) (s : State)
    (h : tail.length < n.toNat) :
    extendFrame (n :: tail) b s = setReceiver (.assembling (n :: tail ++ [b]) 0) s :=
  if_neg (by rw [List.length_cons]; omega)

/-- The last byte is compared with the CHECK of the others (R173, R174). -/
theorem extendFrame_last {n kind tag b : Byte} {payload : List Byte} (s : State)
    (h : payload.length + 2 = n.toNat) :
    extendFrame (n :: kind :: tag :: payload) b s =
      if b = crc8 (n :: kind :: tag :: payload)
      then takeGoodFrame { kind, tag, payload } (setReceiver .hunting s)
      else discardFrame s := by
  have hdrop : (n :: kind :: tag :: (payload ++ [b])).dropLast = n :: kind :: tag :: payload :=
    List.dropLast_concat (l₁ := n :: kind :: tag :: payload)
  have hlast : (n :: kind :: tag :: (payload ++ [b])).getLast? = some b :=
    List.getLast?_concat (l := n :: kind :: tag :: payload)
  have hcomplete : extendFrame (n :: kind :: tag :: payload) b s =
      completeFrame (n :: kind :: tag :: (payload ++ [b])) s :=
    if_pos (by rw [List.length_cons, List.length_cons, List.length_cons]; omega)
  rw [hcomplete, completeFrame, hdrop, hlast, List.dropLast_concat]
  simp only [Option.some.injEq]

/-- A frame of its announced length has a kind and a tag. -/
theorem frame_parts {n : Byte} {tail : List Byte} (h : 2 ≤ n.toNat)
    (hlen : (n :: tail).length = n.toNat + 1) :
    ∃ kind tag payload, tail = kind :: tag :: payload ∧ payload.length + 2 = n.toNat := by
  rw [List.length_cons] at hlen
  match tail with
  | [] => simp at hlen; omega
  | [a] => simp at hlen; omega
  | kind :: tag :: payload =>
    exact ⟨kind, tag, payload, rfl, by simpa using hlen⟩

/-! ## A whole frame -/

theorem queueCommand_room {s : State} (f : Frame) (h : s.link.commands.length < 4) :
    queueCommand f s = s.setLink { s.link with commands := s.link.commands ++ [f] } := if_pos h

theorem queueCommand_full {s : State} (f : Frame) (h : s.link.commands.length = 4) :
    queueCommand f s = faultOccur .linkOverrun none
      (if s.link.replies.length + s.tracking.fences.length < 12 then s.answered f .busy []
        else s) := by
  have hfull : ¬ s.link.commands.length < Config.commandQueueSize := by rw [h]; decide
  unfold queueCommand
  rw [if_neg hfull]
  by_cases hplaces : s.link.replies.length + s.tracking.fences.length < 12
  · rw [if_pos hplaces]
    exact if_pos hplaces
  · rw [if_neg hplaces]
    exact if_neg hplaces

theorem takeGoodFrame_command {f : Frame} (s : State) (h : f.kind.toNat < 0x70) :
    takeGoodFrame f s = queueCommand f s := if_pos (decide_eq_true h)

theorem takeGoodFrame_other {f : Frame} (s : State) (h : 0x70 ≤ f.kind.toNat) :
    takeGoodFrame f s = faultOccur .linkFrame none s :=
  if_neg (by simpa [isCommandKind] using h)

/-- Settles O56: the receiver's rules, hunting and assembling. -/
theorem receiverByRule : Obligations.ReceiverByRule := by
  intro s h
  refine ⟨fun hr => ⟨?start, fun b stop hno => ?drop⟩, fun got gap hr => ⟨fun hgap =>
    ⟨fun b => ?broken, fun b hgot hlen => ?length, fun n tail b hgot hn hlen => ⟨fun hcrc => ?check,
      fun kind tag payload hcrc hparts => ⟨fun hkind => ?kind, fun hkind hfull => ?full⟩⟩, ?sound⟩,
    fun hgap => ?due⟩, fun hr => ?quiet⟩
  case start =>
    rw [exec_receiveByte h, takeGapTimeout_hunting hr, takeByte_hunting hr, if_pos ⟨rfl, rfl⟩]
    rfl
  case drop =>
    have hnot : ¬ (stop = true ∧ b = 0xA7) := by
      rintro ⟨rfl, rfl⟩
      simp at hno
    rw [exec_receiveByte h, takeGapTimeout_hunting hr, takeByte_hunting hr, if_neg hnot]
  case broken =>
    rw [exec_receiveByte h, takeGapTimeout_sound hr hgap, takeByte_broken hr]
    rfl
  case length =>
    subst hgot
    rw [exec_receiveByte h, takeGapTimeout_sound hr hgap, takeByte_sound hr,
      extendFrame_bad_length s hlen]
    rfl
  case check =>
    subst hgot
    obtain ⟨kind, tag, payload, rfl, hpayload⟩ := frame_parts hn hlen
    rw [exec_receiveByte h, takeGapTimeout_sound hr hgap, takeByte_sound hr,
      extendFrame_last s hpayload, if_neg hcrc]
    rfl
  case kind =>
    subst hparts
    have hpayload : payload.length + 2 = n.toNat := by simpa using hlen
    rw [exec_receiveByte h, takeGapTimeout_sound hr hgap, takeByte_sound hr,
      extendFrame_last s hpayload, if_pos hcrc, takeGoodFrame_other _ hkind]
    rfl
  case full =>
    subst hparts
    have hpayload : payload.length + 2 = n.toNat := by simpa using hlen
    rw [exec_receiveByte h, takeGapTimeout_sound hr hgap, takeByte_sound hr,
      extendFrame_last s hpayload, if_pos hcrc, takeGoodFrame_command _ hkind,
      queueCommand_full _ (by exact hfull)]
    rfl
  case sound => rw [exec_byteGapTimeout h, takeGapTimeout_sound hr hgap]
  case due =>
    rw [exec_byteGapTimeout h, takeGapTimeout_due hr hgap]
    rfl
  case quiet => rw [exec_byteGapTimeout h, takeGapTimeout_hunting hr]

/-! ## A run over the bytes of a frame -/

/-- The state with its receiver at `r` and `bytes` still to come. -/
def State.receiving (s : State) (r : Receiver) (bytes : List Byte) : State :=
  { s with
    pending := bytes.map fun b => .receiveByte b true
    link := { s.link with receiver := r } }

/-- A byte's step in a run. -/
theorem run_receiving {s t : State} {r : Receiver} {b : Byte} {bytes : List Byte} (k : Nat)
    (h : s.resetHold = none)
    (ht : takeByte b true (takeGapTimeout (s.receiving r bytes)) = t) :
    Sys2Proof.core.run (k + 1) (s.receiving r (b :: bytes)) = Sys2Proof.core.run k t := by
  have hstep : Sys2Proof.core.step (s.receiving r (b :: bytes)) = .next t := by
    rw [← ht]
    exact exec_receiveByte (s := s.receiving r bytes) (by exact h) b true
  simp only [Host.Core.run, hstep]

theorem takeByte_receiving_start (s : State) (bytes : List Byte) :
    takeByte 0xA7 true (takeGapTimeout (s.receiving .hunting bytes)) =
      s.receiving (.assembling [] 0) bytes := by
  rw [takeGapTimeout_hunting rfl, takeByte_hunting rfl, if_pos ⟨rfl, rfl⟩]
  rfl

theorem takeByte_receiving (s : State) (got bytes : List Byte) (b : Byte) :
    takeByte b true (takeGapTimeout (s.receiving (.assembling got 0) bytes)) =
      extendFrame got b (s.receiving (.assembling got 0) bytes) := by
  rw [takeGapTimeout_sound rfl (by decide), takeByte_sound rfl]

/-- The bytes between the length and the CHECK join the frame one after another. -/
theorem run_inside {s : State} (h : s.resetHold = none) {n : Byte} (more : List Byte) (k : Nat)
    (tail bytes : List Byte) (hlen : tail.length + more.length ≤ n.toNat) :
    Sys2Proof.core.run (k + more.length)
        (s.receiving (.assembling (n :: tail) 0) (more ++ bytes)) =
      Sys2Proof.core.run k (s.receiving (.assembling (n :: tail ++ more) 0) bytes) := by
  induction more generalizing tail with
  | nil => rw [List.append_nil]; rfl
  | cons b more ih =>
    rw [List.length_cons] at hlen
    have hjoin : takeByte b true (takeGapTimeout
        (s.receiving (.assembling (n :: tail) 0) (more ++ bytes))) =
        s.receiving (.assembling (n :: (tail ++ [b])) 0) (more ++ bytes) := by
      rw [takeByte_receiving, extendFrame_inside b _ (by omega)]
      rfl
    rw [List.length_cons, ← Nat.add_assoc, List.cons_append, run_receiving (k + more.length) h hjoin,
      ih (tail ++ [b]) (by rw [List.length_append, List.length_singleton]; omega)]
    simp

/-- Settles O55: the start, the length, the bytes it counts, the CHECK. -/
theorem receiverTakesEveryFrame : Obligations.ReceiverTakesEveryFrame := by
  intro s f h hr hroom hkind hpayload
  let n : Byte := byteOf (f.payload.length + 2)
  let inside : List Byte := f.kind :: f.tag :: f.payload
  let check : Byte := crc8 (n :: inside)
  have hn : n.toNat = f.payload.length + 2 := toNat_byteOf_of_lt (by omega)
  have hwire : f.wire = 0xA7 :: n :: (inside ++ [check]) := rfl
  have hstate : { s with pending := f.wire.map fun b => .receiveByte b true } =
      s.receiving .hunting (0xA7 :: n :: (inside ++ [check])) := by
    rw [hwire, State.receiving, ← hr]
  have hlength : f.wire.length = 1 + inside.length + 1 + 1 := by
    rw [hwire]
    simp only [List.length_cons, List.length_append, List.length_nil]
    omega
  have hfirst : takeByte n true (takeGapTimeout
      (s.receiving (.assembling [] 0) (inside ++ [check]))) =
      s.receiving (.assembling [n] 0) (inside ++ [check]) := by
    rw [takeByte_receiving, extendFrame_length _ (by omega)]
    rfl
  have hlast : takeByte check true (takeGapTimeout
      (s.receiving (.assembling (n :: inside) 0) [])) =
      { s with
        pending := []
        link := { s.link with receiver := .hunting, commands := s.link.commands ++ [f] } } := by
    rw [takeByte_receiving, extendFrame_last _ hn.symm, if_pos rfl, takeGoodFrame_command _ hkind,
      queueCommand_room _ (by exact hroom)]
    rfl
  rw [hstate, hlength, run_receiving _ h (takeByte_receiving_start s _),
    run_receiving _ h hfirst, run_inside h inside 1 [] [check]
      (by simp only [inside, List.length_cons, List.length_nil]; omega)]
  exact run_receiving 0 h hlast

end Sys2Proof.Machine
end

section
/-! SUPPORT. The payloads of R189 read back (R18, R46, R56, R80, R114). -/

namespace Sys2Proof.Machine

/-! ## A field of a payload -/

theorem fieldAt_front (n v : Nat) (p : List Byte) :
    fieldAt (leBytes n v ++ p) 0 n = v % 256 ^ n := by
  rw [fieldAt, List.drop_zero, List.take_append_of_le_length (by simp),
    List.take_of_length_le (by simp), leNat_leBytes]

theorem fieldAt_whole (n v : Nat) : fieldAt (leBytes n v) 0 n = v % 256 ^ n := by
  simpa using fieldAt_front n v []

theorem fieldAt_skip {m off : Nat} (h : m ≤ off) (v n : Nat) (p : List Byte) :
    fieldAt (leBytes m v ++ p) off n = fieldAt p (off - m) n := by
  conv_lhs => rw [← Nat.add_sub_cancel' h]
  exact fieldAt_skip_leBytes m v (off - m) n p

theorem fieldAt_cons_zero (b : Byte) (p : List Byte) : fieldAt (b :: p) 0 1 = b.toNat := by
  simp [fieldAt, leNat]

theorem fieldAt_cons_skip {off : Nat} (h : 1 ≤ off) (b : Byte) (n : Nat) (p : List Byte) :
    fieldAt (b :: p) off n = fieldAt p (off - 1) n := by
  obtain ⟨k, rfl⟩ := Nat.exists_eq_add_of_le h
  rw [Nat.add_sub_cancel_left, Nat.add_comm]
  rfl

/-! ## Codes read back -/

theorem rangeOf_of {lo hi v : Nat} (h1 : lo ≤ v) (h2 : v ≤ hi) : rangeOf lo hi v = some v :=
  if_pos ⟨h1, h2⟩

theorem lengthIs_of {p : List Byte} {n : Nat} (h : p.length = n) : lengthIs p n = some () :=
  if_pos h

theorem boolOf_flagByte (b : Bool) : boolOf (flagByte b).toNat = some b := by
  cases b <;> rfl

theorem modeOf_code (m : EncoderMode) : modeOf m.code.toNat = some m := by
  cases m <;> rfl

theorem toNat_byteOf (v : Nat) : (byteOf v).toNat = v % 256 := by
  simp [byteOf]

theorem finOf_byteOf {n : Nat} (hn : n ≤ 256) (i : Fin n) :
    finOf n (byteOf i.val).toNat = some i := by
  rw [toNat_byteOf_of_lt (by omega), finOf_val]

theorem optFinOf_optFinByte {n : Nat} (hn : n ≤ 255) (x : Option (Fin n)) :
    optFinOf n (optFinByte x).toNat = some x := by
  cases x with
  | none => rfl
  | some i =>
    have hi : (byteOf i.val).toNat = i.val := toNat_byteOf_of_lt (by omega)
    show optFinOf n (byteOf i.val).toNat = some (some i)
    rw [hi, optFinOf, if_neg (by omega), finOf_val]
    rfl

theorem keyOf_toNat (k : Key) : keyOf k.toNat = some k := by
  rw [keyOf, if_pos (by have := k.isLt; omega), BitVec.ofNat_toNat, BitVec.setWidth_eq]

theorem targetOf_lane (l : LaneId) : targetOf 0 l.val = some (.lane l) := by
  rw [targetOf, finOf_val]
  rfl

theorem targetOf_group (g : Fin 8) : targetOf 1 g.val = some (.group g) := by
  rw [targetOf, finOf_val]
  rfl

/-! ## LINE_CONFIG -/

theorem lineConfig_length (c : LineConfig) : c.bytes.length = 26 := by
  simp [LineConfig.bytes]

/-- Each field of a LINE_CONFIG payload reads as what was written there. -/
theorem lineConfig_fields {c : LineConfig} (h : c.InRange) :
    fieldAt c.bytes 0 4 = c.runout ∧ fieldAt c.bytes 4 4 = c.decision ∧
    fieldAt c.bytes 8 2 = c.minLength ∧ fieldAt c.bytes 10 2 = c.maxLength ∧
    fieldAt c.bytes 12 2 = c.minGap ∧ fieldAt c.bytes 14 2 = c.releaseGap ∧
    fieldAt c.bytes 16 1 = c.reserve ∧ fieldAt c.bytes 17 1 = (optFinByte c.noRead).toNat ∧
    fieldAt c.bytes 18 1 = (optFinByte c.noRoute).toNat ∧
    fieldAt c.bytes 19 1 = (optFinByte c.overflow).toNat ∧
    fieldAt c.bytes 20 1 = (optFinByte c.rejectLane).toNat ∧
    fieldAt c.bytes 21 1 = c.mode.code.toNat ∧ fieldAt c.bytes 22 1 = (flagByte c.inverted).toNat ∧
    fieldAt c.bytes 23 1 = c.filterTime ∧ fieldAt c.bytes 24 2 = c.reverseLimit := by
  unfold LineConfig.InRange at h
  simp only [LineConfig.bytes, List.append_assoc, List.cons_append, List.nil_append]
  refine ⟨?_, ?_, ?_, ?_, ?_, ?_, ?_, ?_, ?_, ?_, ?_, ?_, ?_, ?_, ?_⟩
  all_goals
    simp [fieldAt_skip, fieldAt_cons_skip, fieldAt_front, fieldAt_whole, fieldAt_cons_zero,
      toNat_byteOf]
  all_goals omega

theorem parseLineConfig_bytes {c : LineConfig} (h : c.InRange) :
    parseLineConfig c.bytes = some c := by
  obtain ⟨hrunout, hdecision, hmin, hmax, hgap, hrelease, hreserve, hread, hroute, hoverflow,
    hreject, hmode, hinverted, hfilter, hreverse⟩ := lineConfig_fields h
  unfold LineConfig.InRange at h
  unfold parseLineConfig
  rw [lengthIs_of (lineConfig_length c), hrunout, hdecision, hmin, hmax, hgap, hrelease, hreserve,
    hread, hroute, hoverflow, hreject, hmode, hinverted, hfilter, hreverse,
    rangeOf_of (by omega) (by omega), rangeOf_of (by omega) (by omega),
    rangeOf_of (by omega) (by omega), rangeOf_of (by omega) (by omega),
    rangeOf_of (by omega) (by omega), optFinOf_optFinByte (by decide),
    optFinOf_optFinByte (by decide), optFinOf_optFinByte (by decide),
    optFinOf_optFinByte (by decide), modeOf_code, boolOf_flagByte,
    rangeOf_of (by omega) (by omega)]
  exact if_pos (by omega)

/-! ## LANE_CONFIG -/

theorem geometry_length (g : Geometry) : g.bytes.length = 18 := by
  simp [Geometry.bytes]

theorem geometry_fields (l : LaneId) {g : Geometry} (h : g.InRange) :
    fieldAt (byteOf l.val :: g.bytes) 0 1 = l.val ∧
    fieldAt (byteOf l.val :: g.bytes) 1 4 = g.fireDistance ∧
    fieldAt (byteOf l.val :: g.bytes) 5 2 = g.dwell ∧
    fieldAt (byteOf l.val :: g.bytes) 7 1 = g.retractTime ∧
    fieldAt (byteOf l.val :: g.bytes) 8 1 = g.settleTime ∧
    fieldAt (byteOf l.val :: g.bytes) 9 2 = g.pitch ∧
    fieldAt (byteOf l.val :: g.bytes) 11 2 = g.confirmOpen ∧
    fieldAt (byteOf l.val :: g.bytes) 13 2 = g.confirmClose ∧
    fieldAt (byteOf l.val :: g.bytes) 15 2 = g.fullDelay ∧
    fieldAt (byteOf l.val :: g.bytes) 17 2 = g.jamTime := by
  unfold Geometry.InRange at h
  simp only [Geometry.bytes, List.append_assoc, List.cons_append, List.nil_append]
  refine ⟨?_, ?_, ?_, ?_, ?_, ?_, ?_, ?_, ?_, ?_⟩
  all_goals
    simp [fieldAt_skip, fieldAt_cons_skip, fieldAt_front, fieldAt_whole, fieldAt_cons_zero,
      toNat_byteOf]
  all_goals omega

theorem parseLaneConfig_bytes (l : LaneId) {g : Geometry} (h : g.InRange) :
    parseLaneConfig (byteOf l.val :: g.bytes) = some (l, g) := by
  obtain ⟨hlane, hfire, hdwell, hretract, hsettle, hpitch, hopen, hclose, hfull, hjam⟩ :=
    geometry_fields l h
  unfold Geometry.InRange at h
  unfold parseLaneConfig
  rw [lengthIs_of (by rw [List.length_cons, geometry_length]), hlane, hfire, hdwell, hretract,
    hsettle, hpitch, hopen, hclose, hfull, hjam, finOf_val, rangeOf_of (by omega) (by omega),
    rangeOf_of (by omega) (by omega), rangeOf_of (by omega) (by omega),
    rangeOf_of (by omega) (by omega), rangeOf_of (by omega) (by omega)]
  exact if_pos (by omega)

/-! ## ROUTE_WRITE_NEXT, ASSIGN and the belt's commands -/

theorem routePayload_length (key mask : Key) (plan : Fin 16) (allPlans : Bool) (target : Target)
    (locked : Bool) : (routePayload key mask plan allPlans target locked).length = 13 := by
  cases target <;> simp [routePayload, Target.bytes]

theorem targetOf_bytes (t : Target) (p : List Byte) :
    targetOf (fieldAt (t.bytes ++ p) 0 1) (fieldAt (t.bytes ++ p) 1 1) = some t := by
  cases t with
  | lane l =>
    have hl : (byteOf l.val).toNat = l.val := toNat_byteOf_of_lt (by omega)
    simp [Target.bytes, fieldAt_cons_zero, fieldAt_cons_skip, hl, targetOf_lane]
  | group g =>
    have hg : (byteOf g.val).toNat = g.val := toNat_byteOf_of_lt (by omega)
    simp [Target.bytes, fieldAt_cons_zero, fieldAt_cons_skip, hg, targetOf_group]

theorem fieldAt_target (t : Target) (p : List Byte) (n : Nat) :
    fieldAt (t.bytes ++ p) 2 n = fieldAt p 0 n := by
  cases t <;> rfl

theorem parseRouteWriteNext_payload (key mask : Key) (plan : Fin 16) (allPlans : Bool)
    (target : Target) (locked : Bool) :
    parseRouteWriteNext (routePayload key mask plan allPlans target locked) = some
      { valid := true, key := key &&& ~~~mask, mask := mask, plan := plan, allPlans := allPlans
        target := target, locked := locked, hits := 0 } := by
  have hkey := key.isLt
  have hmask := mask.isLt
  have hplan : (byteOf plan.val).toNat = plan.val := toNat_byteOf_of_lt (by omega)
  have hfields : routePayload key mask plan allPlans target locked =
      leBytes 4 key.toNat ++ (leBytes 4 mask.toNat ++ (byteOf plan.val :: flagByte allPlans ::
        (target.bytes ++ [flagByte locked]))) := by
    simp [routePayload]
  have hkeyField : key.toNat % 256 ^ 4 = key.toNat := Nat.mod_eq_of_lt (by omega)
  have hmaskField : mask.toNat % 256 ^ 4 = mask.toNat := Nat.mod_eq_of_lt (by omega)
  unfold parseRouteWriteNext parseRouteEntry
  rw [lengthIs_of (routePayload_length ..), hfields]
  simp only [fieldAt_front, fieldAt_skip, fieldAt_cons_zero, fieldAt_cons_skip, Nat.reduceLeDiff,
    Nat.reduceSub, Nat.reduceAdd, hkeyField, hmaskField, keyOf_toNat, hplan, finOf_val,
    boolOf_flagByte, targetOf_bytes, fieldAt_target, Option.bind_eq_bind, Option.bind_some]

theorem optKeyOf_keyBytes (key : Option Key) : optKeyOf (fieldAt (keyBytes key) 0 4) = some key := by
  cases key with
  | none => rfl
  | some k =>
    have hk := k.isLt
    have hfield : fieldAt (keyBytes (some k)) 0 4 = k.toNat := fieldAt_leBytes (by omega)
    rw [hfield, optKeyOf, if_neg (by omega), keyOf_toNat]
    rfl

theorem keyBytes_length (key : Option Key) : (keyBytes key).length = 4 := by
  cases key <;> simp [keyBytes]

theorem parseAssign_bytes {item : Nat} (h1 : 1 ≤ item) (h2 : item ≤ 65535) (key : Option Key) :
    parseAssign (leBytes 2 item ++ keyBytes key) = some (item, key) := by
  have hlength : (leBytes 2 item ++ keyBytes key).length = 6 := by
    rw [List.length_append, length_leBytes, keyBytes_length]
  unfold parseAssign
  rw [lengthIs_of hlength, fieldAt_leBytes_append (by omega), fieldAt_skip (le_refl 2),
    optKeyOf_keyBytes, itemOf, rangeOf_of h1 h2]
  rfl

/-- Settles O59: every layout read field by field from the bytes that spell it. -/
theorem payloadsReadBack : Obligations.PayloadsReadBack :=
  ⟨fun _ h => parseLineConfig_bytes h, fun l _ h => parseLaneConfig_bytes l h,
    fun _ ha ha' hd hd' hl hs => parseBeltConfig_of_inRange
      ⟨by omega, by omega, hl, by omega⟩ ⟨⟨ha, ha'⟩, ⟨hd, hd'⟩, hs⟩,
    parseRouteWriteNext_payload, fun _ key h1 h2 => parseAssign_bytes h1 h2 key,
    fun _ h1 h2 => (parseSpeed_leBytes (by omega)).trans (if_pos ⟨h1, h2⟩)⟩

end Sys2Proof.Machine
end

section
/-! SUPPORT. STATUS, LINE_READ, LANE_READ and FAULT_READ (R48, R134, R154, R184). -/

namespace Sys2Proof.Machine

/-- A set of sources as the model collects it is the set of R187. -/
theorem sourceSet_isSourceSet (s : State) (p : SourceState → Bool) :
    IsSourceSet (s.sourceSet p) fun f => p (s.source f) := by
  intro n
  unfold State.sourceSet
  rw [getLsbD_foldl_or (fun f => p (s.source f)) (fun f => f.idx.val) _ _ n.isLt]
  simp only [BitVec.ofNat_eq_ofNat, BitVec.getLsbD_zero, Bool.false_or, Bool.and_comm]

theorem exec_status {s : State} {f : Frame} (h : s.Ready f) (hk : f.kind = 0x02)
    (hp : f.payload = []) : exec .status s = .next (answerStatus f s.taken) :=
  congrArg Host.Outcome.next
    (onCommand_ready h hk (x := ()) (by rw [hp, parseNothing_nil]))

theorem exec_lineRead {s : State} {f : Frame} (h : s.Ready f) (hk : f.kind = 0x09)
    (hp : f.payload = []) : exec .lineRead s = .next (s.taken.answered f .ok s.taken.lineFields) :=
  congrArg Host.Outcome.next
    (onCommand_ready h hk (x := ()) (by rw [hp, parseNothing_nil]))

theorem exec_faultRead {s : State} {f : Frame} (h : s.Ready f) (hk : f.kind = 0x40)
    (hp : f.payload = []) :
    exec .faultRead s = .next (s.taken.answered f .ok s.taken.faultFields) :=
  congrArg Host.Outcome.next
    (onCommand_ready h hk (x := ()) (by rw [hp, parseNothing_nil]))

theorem exec_laneRead {s : State} {f : Frame} {l : LaneId} (h : s.Ready f) (hk : f.kind = 0x3A)
    (hp : parseLane f.payload = some l) :
    exec .laneRead s = .next (s.taken.answered f .ok (s.taken.laneFields l)) :=
  congrArg Host.Outcome.next (onCommand_ready h hk hp)

theorem parseLane_index (l : LaneId) : parseLane [byteOf l.val] = some l := by
  have hindex : fieldAt [byteOf l.val] 0 1 = l.val := fieldAt_index (by decide) l
  simp [parseLane, lengthIs, hindex]

/-- The accepted levels as a set of 40 bits (R190). -/
def State.levelSet (s : State) : BitVec 40 :=
  (BitVec.ofFnLE fun i : Fin 34 => s.position.sensors[i].accepted).setWidth 40

theorem levelSet_bit (s : State) (n : Fin 40) : s.levelSet.getLsbD n.val =
    if h : n.val < 34 then s.position.sensors[n.val].accepted else false := by
  rw [State.levelSet, BitVec.getLsbD_setWidth, decide_eq_true n.isLt, Bool.true_and,
    BitVec.getLsbD_ofFnLE]
  rfl

theorem levelBytes_eq (s : State) : s.levelBytes = leBytes 5 s.levelSet.toNat := by
  rw [State.levelBytes, setNumber_eq_toNat_ofFnLE, State.levelSet,
    BitVec.toNat_setWidth_of_le (by decide)]

theorem leadStamp_eq (m : Measurement) : m.leadStamp = match m with
    | .measuring lead => some lead
    | _ => none := by
  cases m <;> rfl

/-- The recovery-hold set in two bytes (R28, R154). -/
theorem holdSet_bytes (i : Infeed) : setBytes i.holdSet =
    [if i.holdPool then 0x80 else 0, if i.holdJam then 1 else 0] := by
  unfold Infeed.holdSet
  cases i.holdPool <;> cases i.holdJam <;> decide

theorem conditionHolds_laneJam (s : State) : s.conditionHolds .laneJam =
    decide (∃ l : LaneId, (s.lane l).jam = true) := by
  rw [Bool.eq_iff_iff]
  simp [State.conditionHolds, allLanes]

theorem faultFields_eq (s : State) : s.faultFields =
    FaultSource.all.flatMap s.sourceFields ++
      [flagByte (s.accepted .emergencyStop),
       flagByte (decide (s.induction.measurement = .jammed)),
       flagByte (decide (∃ l : LaneId, (s.lane l).jam = true)),
       optFinByte (s.faults.first.map FaultSource.idx),
       if s.infeed.holdPool then 0x80 else 0, if s.infeed.holdJam then 1 else 0] := by
  unfold State.faultFields
  rw [holdSet_bytes, ← conditionHolds_laneJam, List.append_assoc, List.append_assoc]
  rfl

/-- Settles O53: the fields of each reply, in order. -/
theorem readsAnswerTheState : Obligations.ReadsAnswerTheState := by
  intro s f h
  refine ⟨fun hk hp => ⟨s.latchedSet, s.maskedSet, sourceSet_isSourceSet s _,
    sourceSet_isSourceSet s _, ?_⟩, fun hk hp => ⟨s.levelSet, levelSet_bit s, ?_⟩,
    fun l hk hp => ?_, fun hk hp => ?_⟩
  · rw [exec_status h hk hp]
    simp only [answerStatus, State.statusFields, State.poolUse, List.append_assoc]
    rfl
  · rw [exec_lineRead h hk hp, State.lineFields, levelBytes_eq, leadStamp_eq]
    rfl
  · rw [exec_laneRead h hk (by rw [hp, parseLane_index])]
    rfl
  · rw [exec_faultRead h hk hp, faultFields_eq]
    rfl

end Sys2Proof.Machine
end

section
/-! SUPPORT. Every reader of a payload refuses what R189 refuses (R177, R189). -/

namespace Sys2Proof.Machine

/-! ## What a reader has accepted -/

theorem rangeOf_some {lo hi v x : Nat} (h : rangeOf lo hi v = some x) : lo ≤ v ∧ v ≤ hi ∧ x = v := by
  unfold rangeOf at h
  split at h
  next hv => exact ⟨hv.1, hv.2, (Option.some.inj h).symm⟩
  next => cases h

theorem finOf_some {n v : Nat} {i : Fin n} (h : finOf n v = some i) : v < n := by
  unfold finOf at h
  split at h
  next hv => exact hv
  next => cases h

theorem optFinOf_some {n v : Nat} {x : Option (Fin n)} (h : optFinOf n v = some x) :
    byteRefused n v = false := by
  unfold optFinOf at h
  split at h
  next hv => simp [byteRefused, hv]
  next =>
    obtain ⟨i, hi, -⟩ := Option.map_eq_some_iff.1 h
    have hlt := finOf_some hi
    simp only [byteRefused, Bool.and_eq_false_iff, decide_eq_false_iff_not]
    omega

theorem boolOf_some : {v : Nat} → {b : Bool} → boolOf v = some b → v = if b then 1 else 0
  | 0, _, h => by cases h; rfl
  | 1, _, h => by cases h; rfl
  | _ + 2, _, h => by cases h

theorem boolOf_le {v : Nat} {b : Bool} (h : boolOf v = some b) : v ≤ 1 := by
  rw [boolOf_some h]
  cases b with
  | false => decide
  | true => decide

theorem modeOf_le : {v : Nat} → {m : EncoderMode} → modeOf v = some m → v ≤ 3
  | 0, _, _ | 1, _, _ | 2, _, _ | 3, _, _ => by decide
  | _ + 4, _, h => by cases h

theorem classOf_le : {v : Nat} → {c : ActionClass} → classOf v = some c → v ≤ 3
  | 0, _, _ | 1, _, _ | 2, _, _ | 3, _, _ => by decide
  | _ + 4, _, h => by cases h

theorem keyOf_some {v : Nat} {k : Key} (h : keyOf v = some k) : v < 0x1000000 := by
  unfold keyOf at h
  split at h
  next hv => exact hv
  next => cases h

theorem optKeyOf_some {v : Nat} {k : Option Key} (h : optKeyOf v = some k) :
    v = 0xFFFFFFFF ∨ v < 0x1000000 := by
  unfold optKeyOf at h
  split at h
  next hv => exact .inl hv
  next =>
    obtain ⟨k, hk, -⟩ := Option.map_eq_some_iff.1 h
    exact .inr (keyOf_some hk)

theorem itemOf_some {v item : Nat} (h : itemOf v = some item) : v ≠ 0 := by
  have := rangeOf_some h
  omega

theorem sourceSetOf_some {v : Nat} {set : BitVec 16} (h : sourceSetOf v = some set) :
    v < 0x8000 ∧ set = BitVec.ofNat 16 v := by
  unfold sourceSetOf at h
  split at h
  next hv => exact ⟨hv, (Option.some.inj h).symm⟩
  next => cases h

theorem targetOf_some : {kind v : Nat} → {t : Target} → targetOf kind v = some t →
    kind = 0 ∧ v < 16 ∨ kind = 1 ∧ v < 8
  | 0, _, _, h => by
    obtain ⟨_, hl, -⟩ := Option.map_eq_some_iff.1 h
    exact .inl ⟨rfl, finOf_some hl⟩
  | 1, _, _, h => by
    obtain ⟨_, hg, -⟩ := Option.map_eq_some_iff.1 h
    exact .inr ⟨rfl, finOf_some hg⟩
  | _ + 2, _, _, h => by cases h

theorem sourceOf_some {v : Nat} {src : FaultSource} (h : sourceOf v = some src) :
    v = src.idx.val := by
  have hfound := List.find?_some (p := fun f : FaultSource => decide (f.idx.val = v)) h
  exact (of_decide_eq_true hfound).symm

/-- A reader that checks the length first refuses another length (R189). -/
theorem none_of_length {α : Type} {p : List Byte} {n : Nat} (h : p.length ≠ n)
    (rest : Unit → Option α) : (lengthIs p n >>= rest) = none := by
  rw [lengthIs, if_neg h]
  rfl

/-- What a reader that checks the length first has accepted. -/
theorem accepted_of_length {α : Type} {p : List Byte} {n : Nat} {rest : Unit → Option α} {x : α}
    (h : (lengthIs p n >>= rest) = some x) : rest () = some x := by
  unfold lengthIs at h
  split at h
  next => exact h
  next => cases h

/-! ## The refused fields of each kind -/

section
variable {p : List Byte}

theorem accepted_softReset {x : ResetScope} (h : parseSoftReset p = some x) :
    fieldsRefused 0x03 p = false := by
  have hbody := accepted_of_length h
  show decide (2 < fieldAt p 0 1) = false
  rw [decide_eq_false_iff_not]
  split at hbody
  next hv => omega
  next hv => omega
  next hv => omega
  next => cases hbody

theorem accepted_lineConfig {x : LineConfig} (h : parseLineConfig p = some x) :
    fieldsRefused 0x08 p = false := by
  have hbody := accepted_of_length h
  simp only [Option.bind_eq_bind, Option.bind_eq_some_iff] at hbody
  obtain ⟨runout, hrunout, decision, hdecision, min, hmin, max, hmax, _, hreserve, _, hread, _, hroute,
    _, hoverflow, _, hreject, _, hmode, _, hinverted, _, hfilter, hlast⟩ := hbody
  have hrunout := rangeOf_some hrunout
  have hdecision := rangeOf_some hdecision
  have hmin := rangeOf_some hmin
  have hmax := rangeOf_some hmax
  have hreserve := rangeOf_some hreserve
  have hmode := modeOf_le hmode
  have hinverted := boolOf_le hinverted
  have hfilter := rangeOf_some hfilter
  have horder : decision < runout ∧ min ≤ max := by
    split at hlast
    next hv => exact hv
    next => cases hlast
  show lineRefused p = false
  simp only [lineRefused, optFinOf_some hread, optFinOf_some hroute, optFinOf_some hoverflow,
    optFinOf_some hreject, Bool.or_eq_false_iff, decide_eq_false_iff_not, and_true]
  omega

theorem accepted_beltConfig {x : BeltSettings} (h : parseBeltConfig p = some x) :
    beltRefused p = false := by
  have hbody := accepted_of_length h
  simp only [Option.bind_eq_bind, Option.bind_eq_some_iff] at hbody
  obtain ⟨_, haccel, _, hdecel, hlast⟩ := hbody
  have haccel := rangeOf_some haccel
  have hdecel := rangeOf_some hdecel
  have hstall : fieldAt p 10 2 = 0 ∨ (10 ≤ fieldAt p 10 2 ∧ fieldAt p 10 2 ≤ 2000) := by
    split at hlast
    next hv => exact hv
    next => cases hlast
  simp only [beltRefused, Bool.or_eq_false_iff, decide_eq_false_iff_not]
  omega

theorem accepted_speed {x : Nat} (h : parseSpeed p = some x) :
    (decide (fieldAt p 0 4 = 0) || decide (200000 < fieldAt p 0 4)) = false := by
  have hspeed := rangeOf_some (accepted_of_length h)
  simp only [Bool.or_eq_false_iff, decide_eq_false_iff_not]
  omega

theorem accepted_stopMode {x : StopMode} (h : parseStopMode p = some x) :
    fieldsRefused 0x13 p = false := by
  have hbody := accepted_of_length h
  show decide (1 < fieldAt p 0 1) = false
  rw [decide_eq_false_iff_not]
  split at hbody
  next hv => omega
  next hv => omega
  next => cases hbody

theorem accepted_enable {x : Bool} (h : parseEnable p = some x) :
    fieldsRefused 0x18 p = false := by
  have henable := boolOf_le (accepted_of_length h)
  show decide (1 < fieldAt p 0 1) = false
  rw [decide_eq_false_iff_not]
  omega

theorem accepted_assign {x : Nat × Option Key} (h : parseAssign p = some x) :
    fieldsRefused 0x20 p = false := by
  have hbody := accepted_of_length h
  simp only [Option.bind_eq_bind, Option.bind_eq_some_iff] at hbody
  obtain ⟨_, hitem, _, hkey, -⟩ := hbody
  have hitem := itemOf_some hitem
  have hkey := optKeyOf_some hkey
  show (decide (fieldAt p 0 2 = 0) ||
    decide (0x1000000 ≤ fieldAt p 2 4 ∧ fieldAt p 2 4 ≠ 0xFFFFFFFF)) = false
  simp only [Bool.or_eq_false_iff, decide_eq_false_iff_not]
  omega

theorem accepted_assignLane {x : Nat × LaneId} (h : parseAssignLane p = some x) :
    fieldsRefused 0x21 p = false := by
  have hbody := accepted_of_length h
  simp only [Option.bind_eq_bind, Option.bind_eq_some_iff] at hbody
  obtain ⟨_, hitem, _, hlane, -⟩ := hbody
  have hitem := itemOf_some hitem
  have hlane := finOf_some hlane
  show (decide (fieldAt p 0 2 = 0) || decide (16 ≤ fieldAt p 2 1)) = false
  simp only [Bool.or_eq_false_iff, decide_eq_false_iff_not]
  omega

theorem accepted_item {x : Nat} (h : parseItem p = some x) :
    decide (fieldAt p 0 2 = 0) = false :=
  decide_eq_false (itemOf_some (accepted_of_length h))

theorem accepted_trackRead {x : Option Nat × Nat} (h : parseTrackRead p = some x) :
    fieldsRefused 0x23 p = false := by
  have hbody := accepted_of_length h
  simp only [Option.bind_eq_bind, Option.bind_eq_some_iff] at hbody
  obtain ⟨_, hfirst, _, hcount, -⟩ := hbody
  have hfirst := itemOf_some hfirst
  have hcount := rangeOf_some hcount
  show (decide (fieldAt p 0 2 = 0) || decide (fieldAt p 2 1 = 0) ||
    decide (16 < fieldAt p 2 1)) = false
  simp only [Bool.or_eq_false_iff, decide_eq_false_iff_not]
  omega

theorem accepted_fence {x : FenceScope} (h : parseFence p = some x) :
    fieldsRefused 0x25 p = false := by
  have hbody := accepted_of_length h
  show decide (1 < fieldAt p 0 1) = false
  rw [decide_eq_false_iff_not]
  split at hbody
  next hv => omega
  next hv => omega
  next => cases hbody

theorem accepted_routeEntry {off : Nat} {x : RouteEntry} (h : parseRouteEntry p off = some x) :
    routeRefused p off = false := by
  unfold parseRouteEntry at h
  simp only [Option.bind_eq_bind, Option.bind_eq_some_iff] at h
  obtain ⟨_, hkey, _, hmask, _, hplan, _, hall, _, htarget, _, hlocked, -⟩ := h
  have hkey := keyOf_some hkey
  have hmask := keyOf_some hmask
  have hplan := finOf_some hplan
  have hall := boolOf_le hall
  have htarget := targetOf_some htarget
  have hlocked := boolOf_le hlocked
  simp only [routeRefused, Bool.or_eq_false_iff, decide_eq_false_iff_not]
  omega

theorem accepted_routeWrite {x : Fin 32 × RouteEntry} (h : parseRouteWrite p = some x) :
    fieldsRefused 0x28 p = false := by
  have hbody := accepted_of_length h
  simp only [Option.bind_eq_bind, Option.bind_eq_some_iff] at hbody
  obtain ⟨_, hindex, _, hentry, -⟩ := hbody
  have hindex := finOf_some hindex
  show (decide (32 ≤ fieldAt p 0 1) || routeRefused p 1) = false
  rw [accepted_routeEntry hentry, Bool.or_false, decide_eq_false_iff_not]
  omega

theorem accepted_routeWriteNext {x : RouteEntry} (h : parseRouteWriteNext p = some x) :
    fieldsRefused 0x29 p = false :=
  accepted_routeEntry (accepted_of_length h)

theorem accepted_routeRead {x : Option (Fin 32)} (h : parseRouteRead p = some x) :
    fieldsRefused 0x2A p = false :=
  optFinOf_some (accepted_of_length h)

theorem accepted_routeProbe {x : Key × Option (Fin 16)} (h : parseRouteProbe p = some x) :
    fieldsRefused 0x2B p = false := by
  have hbody := accepted_of_length h
  simp only [Option.bind_eq_bind, Option.bind_eq_some_iff] at hbody
  obtain ⟨_, hkey, _, hplan, -⟩ := hbody
  have hkey := keyOf_some hkey
  show (decide (0x1000000 ≤ fieldAt p 0 4) || byteRefused 16 (fieldAt p 4 1)) = false
  rw [optFinOf_some hplan, Bool.or_false, decide_eq_false_iff_not]
  omega

theorem accepted_routeClear {x : ClearScope} (h : parseRouteClear p = some x) :
    fieldsRefused 0x2C p = false := by
  have hbody := accepted_of_length h
  show decide (0x21 < fieldAt p 0 1) = false
  rw [decide_eq_false_iff_not]
  dsimp only at hbody
  split at hbody
  next hv => omega
  next =>
    split at hbody
    next hv => omega
    next =>
      obtain ⟨_, hindex, -⟩ := Option.map_eq_some_iff.1 hbody
      have hindex := finOf_some hindex
      omega

theorem accepted_index {n : Nat} {x : Fin n} (h : finOf n (fieldAt p 0 1) = some x) :
    decide (n ≤ fieldAt p 0 1) = false :=
  decide_eq_false (not_le.2 (finOf_some h))

theorem accepted_groupSet {x : LaneId × Vector (Option (Fin 7)) 4} (h : parseGroupSet p = some x) :
    fieldsRefused 0x30 p = false := by
  have hbody := accepted_of_length h
  simp only [Option.bind_eq_bind, Option.bind_eq_some_iff] at hbody
  obtain ⟨_, hlane, _, h0, _, h1, _, h2, _, h3, -⟩ := hbody
  show (decide (16 ≤ fieldAt p 0 1) || byteRefused 7 (fieldAt p 1 1) ||
    byteRefused 7 (fieldAt p 2 1) || byteRefused 7 (fieldAt p 3 1) ||
    byteRefused 7 (fieldAt p 4 1)) = false
  rw [accepted_index hlane, optFinOf_some h0, optFinOf_some h1, optFinOf_some h2,
    optFinOf_some h3]
  rfl

theorem accepted_laneConfig {x : LaneId × Geometry} (h : parseLaneConfig p = some x) :
    fieldsRefused 0x38 p = false := by
  have hbody := accepted_of_length h
  simp only [Option.bind_eq_bind, Option.bind_eq_some_iff] at hbody
  obtain ⟨_, hlane, _, hfire, _, hdwell, _, hpitch, close, hclose, _, hfull, hlast⟩ := hbody
  have hlane := finOf_some hlane
  have hfire := rangeOf_some hfire
  have hdwell := rangeOf_some hdwell
  have hpitch := rangeOf_some hpitch
  have hclose := rangeOf_some hclose
  have hfull := rangeOf_some hfull
  have hrest : fieldAt p 11 2 < close ∧
      (fieldAt p 17 2 = 0 ∨ (100 ≤ fieldAt p 17 2 ∧ fieldAt p 17 2 ≤ 10000)) := by
    split at hlast
    next hv => exact hv
    next => cases hlast
  show laneRefused p = false
  simp only [laneRefused, Bool.or_eq_false_iff, decide_eq_false_iff_not]
  omega

theorem accepted_laneState {x : LaneId × LaneRequest} (h : parseLaneState p = some x) :
    fieldsRefused 0x39 p = false := by
  have hbody := accepted_of_length h
  simp only [Option.bind_eq_bind, Option.bind_eq_some_iff] at hbody
  obtain ⟨_, hlane, hrequest⟩ := hbody
  show (decide (16 ≤ fieldAt p 0 1) || decide (2 < fieldAt p 1 1)) = false
  rw [accepted_index hlane, Bool.false_or, decide_eq_false_iff_not]
  split at hrequest
  next hv => omega
  next hv => omega
  next hv => omega
  next => cases hrequest

theorem accepted_faultClear {x : BitVec 16} (h : parseFaultClear p = some x) :
    fieldsRefused 0x41 p = false :=
  decide_eq_false (not_le.2 (sourceSetOf_some (accepted_of_length h)).1)

theorem getLsbD_sourceSet {v : Nat} {n : Nat} (hn : n < 16) :
    (BitVec.ofNat 16 v).getLsbD n = v.testBit n := by
  rw [BitVec.getLsbD_ofNat, decide_eq_true hn, Bool.true_and]

theorem accepted_faultMask {x : BitVec 16 × BitVec 16} (h : parseFaultMask p = some x) :
    fieldsRefused 0x42 p = false := by
  have hbody := accepted_of_length h
  simp only [Option.bind_eq_bind, Option.bind_eq_some_iff] at hbody
  obtain ⟨set, hparsedSet, clear, hparsedClear, hlast⟩ := hbody
  obtain ⟨hset, rfl⟩ := sourceSetOf_some hparsedSet
  obtain ⟨hclear, rfl⟩ := sourceSetOf_some hparsedClear
  split at hlast
  next hv =>
    obtain ⟨hset6, hclear6, hdisjoint⟩ := hv
    rw [getLsbD_sourceSet (by decide)] at hset6 hclear6
    have hapart : ((List.range 15).any fun n =>
        (fieldAt p 0 2).testBit n && (fieldAt p 2 2).testBit n) = false := by
      rw [List.any_eq_false]
      intro n hn
      have hn : n < 16 := by have := List.mem_range.1 hn; omega
      have hbit := congrArg (fun y : BitVec 16 => y.getLsbD n) hdisjoint
      simp only [BitVec.getLsbD_and, getLsbD_sourceSet hn] at hbit
      simpa using hbit
    show (decide (0x8000 ≤ fieldAt p 0 2) || decide (0x8000 ≤ fieldAt p 2 2) ||
      (fieldAt p 0 2).testBit 6 || (fieldAt p 2 2).testBit 6 || (List.range 15).any fun n =>
        (fieldAt p 0 2).testBit n && (fieldAt p 2 2).testBit n) = false
    rw [decide_eq_false (not_le.2 hset), decide_eq_false (not_le.2 hclear), hset6, hclear6, hapart]
    rfl
  next => cases hlast

theorem accepted_faultAction {x : FaultSource × ActionClass} (h : parseFaultAction p = some x) :
    fieldsRefused 0x43 p = false := by
  have hbody := accepted_of_length h
  simp only [Option.bind_eq_bind, Option.bind_eq_some_iff] at hbody
  obtain ⟨src, hsource, _, hclass, hlast⟩ := hbody
  have hsource := sourceOf_some hsource
  have hclass := classOf_le hclass
  have hne : src ≠ .estop := by
    split at hlast
    next => cases hlast
    next hv => exact hv
  have hidx : src.idx.val ≠ 6 := fun h6 => hne (FaultSource.idx_inj (g := .estop) (Fin.ext h6))
  show (decide (14 < fieldAt p 0 1) || decide (fieldAt p 0 1 = 6) ||
    decide (3 < fieldAt p 1 1)) = false
  simp only [Bool.or_eq_false_iff, decide_eq_false_iff_not]
  omega

theorem accepted_faultInject {x : BitVec 16 × Option LaneId} (h : parseFaultInject p = some x) :
    fieldsRefused 0x44 p = false := by
  have hbody := accepted_of_length h
  simp only [Option.bind_eq_bind, Option.bind_eq_some_iff] at hbody
  obtain ⟨_, hset, _, hlane, -⟩ := hbody
  show (decide (0x8000 ≤ fieldAt p 0 2) || byteRefused 16 (fieldAt p 2 1)) = false
  rw [optFinOf_some hlane, decide_eq_false (not_le.2 (sourceSetOf_some hset).1)]
  rfl

theorem accepted_eventEnable {x : EnableArgs} (h : parseEventEnable p = some x) :
    fieldsRefused 0x48 p = false := by
  have hbody := accepted_of_length h
  simp only [Option.bind_eq_bind, Option.bind_eq_some_iff] at hbody
  obtain ⟨line, hline, _, hon, hlast⟩ := hbody
  have hvalue := boolOf_some hline
  have hon := boolOf_le hon
  have htypes : fieldAt p 3 1 < if line then 16 else 32 := by
    by_contra hno
    rw [if_neg hno] at hlast
    cases hlast
  show (decide (1 < fieldAt p 0 1) || decide (1 < fieldAt p 4 1) ||
    decide ((if fieldAt p 0 1 = 1 then 16 else 32) ≤ fieldAt p 3 1)) = false
  simp only [Bool.or_eq_false_iff, decide_eq_false_iff_not]
  cases line with
  | false =>
    simp only [Bool.false_eq_true, if_false] at hvalue htypes
    rw [hvalue, if_neg (by decide)]
    omega
  | true =>
    simp only [if_true] at hvalue htypes
    rw [hvalue, if_pos rfl]
    omega

theorem accepted_eventRead {x : Nat} (h : parseEventRead p = some x) :
    fieldsRefused 0x49 p = false := by
  have hmaximum := rangeOf_some (accepted_of_length h)
  show (decide (fieldAt p 0 1 = 0) || decide (20 < fieldAt p 0 1)) = false
  simp only [Bool.or_eq_false_iff, decide_eq_false_iff_not]
  omega

theorem accepted_reportSet {x : ReportSettings} (h : parseReportSet p = some x) :
    (decide (1 < fieldAt p 1 1) || decide (1 < fieldAt p 2 1)) = false := by
  have hbody := accepted_of_length h
  simp only [Option.bind_eq_bind, Option.bind_eq_some_iff] at hbody
  obtain ⟨_, hhold, _, hhigh, -⟩ := hbody
  have hhold := boolOf_le hhold
  have hhigh := boolOf_le hhigh
  simp only [Bool.or_eq_false_iff, decide_eq_false_iff_not]
  omega

end

end Sys2Proof.Machine
end

section
/-! SUPPORT. A frame whose payload is refused, and a frame of no command (R177). -/

namespace Sys2Proof.Machine

/-- A frame of kind `k` that `c` takes is answered BAD_ARG for a length not allowed and for a value
refused (R177, R189). -/
def RefusesBad (c : Instr) (k : Byte) (lengths : List Nat) : Prop :=
  ∀ (s : State) (f : Frame), s.Ready f → f.kind = k →
    (f.payload.length ∉ lengths ∨ fieldsRefused k f.payload = true) →
    exec c s = .next (s.taken.answered f .badArg [])

/-- A command that answers BAD_ARG wherever its reader answers `none` refuses what the reader does. -/
theorem refusesBad_of_reader {α : Type} {c : Instr} {k : Byte} {lengths : List Nat}
    {parse : List Byte → Option α}
    (hexec : ∀ (s : State) (f : Frame), s.Ready f → f.kind = k → parse f.payload = none →
      exec c s = .next (s.taken.answered f .badArg []))
    (hlength : ∀ p, p.length ∉ lengths → parse p = none)
    (hvalue : ∀ p x, parse p = some x → fieldsRefused k p = false) : RefusesBad c k lengths := by
  intro s f h hk hbad
  refine hexec s f h hk ?_
  rcases hbad with hbad | hbad
  · exact hlength f.payload hbad
  · cases hx : parse f.payload with
    | none => rfl
    | some x =>
      rw [hvalue f.payload x hx] at hbad
      cases hbad

section
variable {α : Type} {c : Instr} {k : Byte}

theorem refusesBad_of_command {lengths : List Nat} {parse : List Byte → Option α}
    {body : α → Frame → State → State}
    (hexec : ∀ s : State, exec c s = .next (onCommand k parse body s))
    (hlength : ∀ p, p.length ∉ lengths → parse p = none)
    (hvalue : ∀ p x, parse p = some x → fieldsRefused k p = false) : RefusesBad c k lengths :=
  refusesBad_of_reader
    (fun s _ h hk hp => (hexec s).trans (congrArg Host.Outcome.next (onCommand_badArg h hk hp)))
    hlength hvalue

/-- The rows whose reader checks one length first. -/
theorem refusesBad_of_length {n : Nat} {rest : List Byte → Unit → Option α}
    {body : α → Frame → State → State}
    (hexec : ∀ s : State, exec c s = .next (onCommand k (fun p => lengthIs p n >>= rest p) body s))
    (hvalue : ∀ p x, (lengthIs p n >>= rest p) = some x → fieldsRefused k p = false) :
    RefusesBad c k [n] :=
  refusesBad_of_command hexec (fun p h => none_of_length (by simpa using h) _) hvalue

/-- The rows with an empty payload. -/
theorem refusesBad_of_nothing {body : Unit → Frame → State → State}
    (hexec : ∀ s : State, exec c s = .next (onCommand k parseNothing body s))
    (hvalue : ∀ p, fieldsRefused k p = false) : RefusesBad c k [0] :=
  refusesBad_of_command hexec
    (fun p h => parseNothing_of_ne_nil (by rintro rfl; simp at h)) fun p _ _ => hvalue p

/-- The rows whose empty payload is a read. -/
theorem refusesBad_of_read {n : Nat} {rest : List Byte → Unit → Option α}
    {body : Option α → Frame → State → State} {refused : List Byte → Bool}
    (hexec : ∀ s : State, exec c s =
      .next (onCommand k (parseOrEmpty fun p => lengthIs p n >>= rest p) body s))
    (hvalue : ∀ p x, (lengthIs p n >>= rest p) = some x → refused p = false)
    (hfields : ∀ p, fieldsRefused k p = (decide (p ≠ []) && refused p)) :
    RefusesBad c k [n, 0] := by
  refine refusesBad_of_command hexec (fun p h => ?_) fun p x hx => ?_
  · have hne : p ≠ [] := by rintro rfl; simp at h
    rw [parseOrEmpty_of_ne_nil _ hne, none_of_length (fun hn => h (by simp [hn]))]
    rfl
  · rw [hfields]
    by_cases hne : p = []
    · simp [hne]
    · rw [parseOrEmpty_of_ne_nil _ hne] at hx
      obtain ⟨y, hy, -⟩ := Option.map_eq_some_iff.1 hx
      rw [hvalue p y hy, Bool.and_false]

end

/-! ## The rows that share a kind -/

theorem onFrame_refused {α : Type} {s : State} {f : Frame} {p : Frame → Bool}
    {parse : List Byte → Option α} (body : α → Frame → State → State) (h : s.Ready f)
    (hp : p f = true) (hx : parse f.payload = none) :
    onFrame p (withArgs parse body) s = s.taken.answered f .badArg [] := by
  rw [onFrame_ready h _ _ hp, withArgs, hx]
  rfl

theorem isSoftReset_refused {f : Frame} (scope : ResetScope) (hk : f.kind = 0x03)
    (hx : parseSoftReset f.payload = none) : isSoftReset scope f = true := by
  simp [isSoftReset, isKind, hk, hx]

theorem isLaneState_refused {f : Frame} (q : LaneRequest) (hk : f.kind = 0x39)
    (hx : parseLaneState f.payload = none) : isLaneState q f = true := by
  simp [isLaneState, isKind, hk, hx]

theorem refusesBad_softReset {c : Instr} {scope : ResetScope}
    {body : ResetScope → Frame → State → State} (hexec : ∀ s : State, exec c s =
      .next (onFrame (isSoftReset scope) (withArgs parseSoftReset body) s)) :
    RefusesBad c 0x03 [1] :=
  refusesBad_of_reader (fun s f h hk hx => (hexec s).trans (congrArg Host.Outcome.next
    (onFrame_refused body h (isSoftReset_refused scope hk hx) hx)))
    (fun p h => none_of_length (by simpa using h) _) fun _ _ => accepted_softReset

theorem refusesBad_laneState {c : Instr} {q : LaneRequest}
    {body : LaneId × LaneRequest → Frame → State → State} (hexec : ∀ s : State, exec c s =
      .next (onFrame (isLaneState q) (withArgs parseLaneState body) s)) :
    RefusesBad c 0x39 [2] :=
  refusesBad_of_reader (fun s f h hk hx => (hexec s).trans (congrArg Host.Outcome.next
    (onFrame_refused body h (isLaneState_refused q hk hx) hx)))
    (fun p h => none_of_length (by simpa using h) _) fun _ _ => accepted_laneState

/-! ## Every row -/

theorem commandLayouts_refuse : ∀ row ∈ commandLayouts, RefusesBad row.1 row.2.1 row.2.2 := by
  simp only [commandLayouts, List.cons_append, List.nil_append, List.forall_mem_cons]
  refine ⟨?identify, ?status, ?softResetTrack, ?softResetEvents, ?softResetConfig, ?lineConfig,
    ?lineRead, ?beltConfig, ?beltStart, ?beltSpeed, ?beltStop, ?infeedSet, ?assign, ?assignLane,
    ?cancel, ?trackRead, ?itemRead, ?fence, ?routeWrite, ?routeWriteNext, ?routeRead, ?routeProbe,
    ?routeClear, ?planSelect, ?groupSet, ?groupRead, ?laneConfig, ?laneStateEnable,
    ?laneStateDrain, ?laneStateDisable, ?laneRead, ?faultRead, ?faultClear, ?faultMask,
    ?faultAction, ?faultInject, ?eventEnable, ?eventRead, ?reportSet, List.forall_mem_nil _⟩
  case identify => exact refusesBad_of_nothing (fun _ => rfl) fun _ => rfl
  case status => exact refusesBad_of_nothing (fun _ => rfl) fun _ => rfl
  case lineRead => exact refusesBad_of_nothing (fun _ => rfl) fun _ => rfl
  case faultRead => exact refusesBad_of_nothing (fun _ => rfl) fun _ => rfl
  case softResetTrack => exact refusesBad_softReset fun _ => rfl
  case softResetEvents => exact refusesBad_softReset fun _ => rfl
  case softResetConfig => exact refusesBad_softReset fun _ => rfl
  case laneStateEnable => exact refusesBad_laneState fun _ => rfl
  case laneStateDrain => exact refusesBad_laneState fun _ => rfl
  case laneStateDisable => exact refusesBad_laneState fun _ => rfl
  case beltConfig =>
    exact refusesBad_of_read (fun _ => rfl) (fun _ _ => accepted_beltConfig) fun _ => rfl
  case reportSet =>
    exact refusesBad_of_read (fun _ => rfl) (fun _ _ => accepted_reportSet) fun _ => rfl
  case lineConfig => exact refusesBad_of_length (fun _ => rfl) fun _ _ => accepted_lineConfig
  case beltStart => exact refusesBad_of_length (fun _ => rfl) fun _ _ => accepted_speed
  case beltSpeed => exact refusesBad_of_length (fun _ => rfl) fun _ _ => accepted_speed
  case beltStop => exact refusesBad_of_length (fun _ => rfl) fun _ _ => accepted_stopMode
  case infeedSet => exact refusesBad_of_length (fun _ => rfl) fun _ _ => accepted_enable
  case assign => exact refusesBad_of_length (fun _ => rfl) fun _ _ => accepted_assign
  case assignLane => exact refusesBad_of_length (fun _ => rfl) fun _ _ => accepted_assignLane
  case cancel => exact refusesBad_of_length (fun _ => rfl) fun _ _ => accepted_item
  case trackRead => exact refusesBad_of_length (fun _ => rfl) fun _ _ => accepted_trackRead
  case itemRead => exact refusesBad_of_length (fun _ => rfl) fun _ _ => accepted_item
  case fence => exact refusesBad_of_length (fun _ => rfl) fun _ _ => accepted_fence
  case routeWrite => exact refusesBad_of_length (fun _ => rfl) fun _ _ => accepted_routeWrite
  case routeWriteNext =>
    exact refusesBad_of_length (fun _ => rfl) fun _ _ => accepted_routeWriteNext
  case routeRead => exact refusesBad_of_length (fun _ => rfl) fun _ _ => accepted_routeRead
  case routeProbe => exact refusesBad_of_length (fun _ => rfl) fun _ _ => accepted_routeProbe
  case routeClear => exact refusesBad_of_length (fun _ => rfl) fun _ _ => accepted_routeClear
  case planSelect =>
    exact refusesBad_of_length (fun _ => rfl)
      fun _ _ h => accepted_index (accepted_of_length h)
  case groupSet => exact refusesBad_of_length (fun _ => rfl) fun _ _ => accepted_groupSet
  case groupRead =>
    exact refusesBad_of_length (fun _ => rfl)
      fun _ _ h => accepted_index (accepted_of_length h)
  case laneConfig => exact refusesBad_of_length (fun _ => rfl) fun _ _ => accepted_laneConfig
  case laneRead =>
    exact refusesBad_of_length (fun _ => rfl)
      fun _ _ h => accepted_index (accepted_of_length h)
  case faultClear => exact refusesBad_of_length (fun _ => rfl) fun _ _ => accepted_faultClear
  case faultMask => exact refusesBad_of_length (fun _ => rfl) fun _ _ => accepted_faultMask
  case faultAction => exact refusesBad_of_length (fun _ => rfl) fun _ _ => accepted_faultAction
  case faultInject => exact refusesBad_of_length (fun _ => rfl) fun _ _ => accepted_faultInject
  case eventEnable => exact refusesBad_of_length (fun _ => rfl) fun _ _ => accepted_eventEnable
  case eventRead => exact refusesBad_of_length (fun _ => rfl) fun _ _ => accepted_eventRead

/-- Every kind the interpreter knows has a row (R188). -/
theorem commandKinds_have_rows : ∀ k ∈ commandKinds, ∃ row ∈ commandLayouts, row.2.1 = k := by
  decide

theorem isUnknownKind_of_no_row {f : Frame} (hk : f.kind.toNat < 0x70)
    (hno : ∀ row ∈ commandLayouts, row.2.1 ≠ f.kind) : isUnknownKind f = true := by
  have hunknown : f.kind ∉ commandKinds := fun hmem => by
    obtain ⟨row, hrow, hkind⟩ := commandKinds_have_rows f.kind hmem
    exact hno row hrow hkind
  simp [isUnknownKind, isCommandKind, hk, hunknown]

/-- Settles O54: each row's reader, and a kind with no row. -/
theorem badFramesChangeNothing : Obligations.BadFramesChangeNothing := by
  refine fun s f h => ⟨fun c lengths hrow => ⟨fun hlength => ?_, fun _ hvalue => ?_⟩,
    fun hk hno => ?_⟩
  · exact commandLayouts_refuse _ hrow s f h rfl (.inl hlength)
  · exact commandLayouts_refuse _ hrow s f h rfl (.inr hvalue)
  · exact congrArg Host.Outcome.next (onFrame_ready h _ _ (isUnknownKind_of_no_row hk hno))

end Sys2Proof.Machine
end

section
/-! SUPPORT. What a source that comes to act leaves (R145 to R152, R159). -/

namespace Sys2Proof.Machine

/-! ## The class actions but for the fault unit, the infeed and the events -/

/-- `a` with the fault unit, the infeed and the event unit of `s`. -/
def State.restOf (s a : State) : State :=
  { a with faults := s.faults, infeed := s.infeed, events := s.events }

section
variable (s : State) (F : FaultUnit)

theorem restOf_beltHalt : s.restOf (beltHalt (s.setFaults F)) = { s with belt :=
    if s.belt.state.stopping then s.belt
    else { s.belt with state := .decel, target := 0, standstillTimer := 0 } } := by
  have hbelt := beltHalt_belt (s.setFaults F)
  refine State.ext_blocks ?_ ?_ ?_ ?_ ?_ hbelt ?_ ?_ ?_ ?_ ?_ ?_ ?_ ?_ ?_ <;>
    simp [State.restOf]

/-- The fence action reaches the lanes, the records and the link (R119, R150). -/
theorem restOf_fenceLanes (set : BitVec 16) : { s.restOf (fenceLanes set (s.setFaults F)) with
    lanes := s.lanes, tracking := s.tracking, link := s.link } = s := by
  refine State.ext_blocks ?_ ?_ ?_ ?_ ?_ ?_ ?_ ?_ ?_ ?_ ?_ ?_ ?_ ?_ ?_ <;> simp [State.restOf]

/-- The STOP action reaches the belt, the lanes, the records and the link (R152). -/
theorem restOf_stopAction : { s.restOf (stopAction (s.setFaults F)) with
    belt := s.belt, tracking := s.tracking, lanes := s.lanes, link := s.link } = s := by
  refine State.ext_blocks ?_ ?_ ?_ ?_ ?_ ?_ ?_ ?_ ?_ ?_ ?_ ?_ ?_ ?_ ?_ <;> simp [State.restOf]

theorem stopAction_infeed (t : State) :
    { (stopAction t).infeed with state := t.infeed.state } = t.infeed := by
  have hinfeed : (stopAction t).infeed = (beltBrake t).infeed := by
    rw [stopAction]
    simp only [purge_frame]
    exact (retractRequests_frame _).2.2.2
  rw [hinfeed]
  exact beltBrake_infeed t

end

theorem recoverAction_scoped {f : FaultSource} (h : f.laneScoped = true) (s : State) :
    recoverAction f s = fenceLanes (s.source f).laneSet s := by
  revert h
  unfold recoverAction
  cases f <;> simp [FaultSource.laneScoped]

theorem setInfeed_same (s : State) : s.setInfeed { s.infeed with enable := s.infeed.enable } = s :=
  rfl

/-- The recovery of a source without lanes is a recovery hold, or nothing (R150). -/
theorem recoverAction_unscoped {f : FaultSource} (h : f.laneScoped = false) (s : State) :
    recoverAction f s = s.setInfeed { s.infeed with
      holdPool := s.infeed.holdPool || decide (f = .poolExhausted)
      holdJam := s.infeed.holdJam || decide (f = .entryJam) } := by
  revert h
  unfold recoverAction
  cases f <;> simp [FaultSource.laneScoped, setInfeed_same]

/-- The infeed's holds after a source's action (R28, R150). -/
theorem takeAction_infeed (f : FaultSource) (t : State) :
    { (takeAction f t).infeed with state := t.infeed.state } = { t.infeed with
      holdPool := t.infeed.holdPool ||
        decide ((t.source f).cls = .recover ∧ f = .poolExhausted)
      holdJam := t.infeed.holdJam || decide ((t.source f).cls = .recover ∧ f = .entryJam) } := by
  unfold takeAction
  cases hcls : (t.source f).cls with
  | record => simp
  | halt => exact (beltHalt_infeed t).trans (by simp)
  | stop => exact (stopAction_infeed t).trans (by simp)
  | recover =>
    cases hscoped : f.laneScoped with
    | false =>
      dsimp only
      rw [recoverAction_unscoped hscoped]
      simp
    | true =>
      have hpool : f ≠ .poolExhausted := by rintro rfl; cases hscoped
      have hjam : f ≠ .entryJam := by rintro rfl; cases hscoped
      dsimp only
      rw [recoverAction_scoped hscoped]
      simp [hpool, hjam]

/-! ## A class action with its report -/

/-- The FAULT report of a source as it stands (R159). -/
def State.dueReport (s : State) (f : FaultSource) : FaultReport :=
  { source := f, count := (s.source f).count, cls := (s.source f).cls
    first := decide (s.faults.first = some f)
    lane := if f.laneScoped then (s.source f).latchLane else none }

theorem reportDue_eq (f : FaultSource) (s : State) : reportDue f s = s.setLink { s.link with
    faultReports := placeFaultReport (s.dueReport f) s.link.faultReports } := rfl

section
variable (s : State) (F : FaultUnit) (f : FaultSource)

/-- The class's action on `s` with another fault unit. -/
def State.action (s : State) (F : FaultUnit) (f : FaultSource) : State :=
  takeAction f (s.setFaults F)

/-- The action on `s` with another fault unit, its report, and the infeed's choice after it. -/
def State.acting (s : State) (F : FaultUnit) (f : FaultSource) : State :=
  chooseInfeed (reportDue f (s.action F f))

/-- The fault unit with `f` as the first fault where there is none (R148). -/
def FaultUnit.capturing (F : FaultUnit) (f : FaultSource) : FaultUnit :=
  { F with first := some (F.first.getD f) }

/-- A source comes to act by the first fault's capture, then its action and its report (R145, R156). -/
theorem acting_capturing :
    chooseInfeed (actAndReport f (s.setFaults F)) = s.acting (F.capturing f) f := by
  have hfaults := captureFirst_faults f (s.setFaults F)
  rw [setFaults_faults] at hfaults
  have hcapture : captureFirst f (s.setFaults F) = s.setFaults (F.capturing f) := by
    show s.setFaults (captureFirst f (s.setFaults F)).faults = _
    rw [hfaults]
    rfl
  rw [actAndReport, hcapture]
  rfl

theorem action_faults : (s.action F f).faults = F := by
  simp [State.action]

theorem acting_faults : (s.acting F f).faults = F := by
  rw [State.acting]
  simp only [chooseInfeed_frame, reportDue_frame]
  exact action_faults s F f

theorem acting_source (g : FaultSource) : (s.acting F f).source g = (s.setFaults F).source g :=
  source_congr (s := s.setFaults F) (acting_faults s F f) g

theorem action_faultReports : (s.action F f).link.faultReports = s.link.faultReports :=
  (takeAction_counts f _).faultReports

theorem action_dueReport : (s.action F f).dueReport f = (s.setFaults F).dueReport f := by
  unfold State.dueReport
  rw [source_congr (s := s.setFaults F) (action_faults s F f), action_faults]
  rfl

theorem acting_eq : s.acting F f = chooseInfeed ((s.action F f).setLink { (s.action F f).link with
    faultReports := placeFaultReport ((s.setFaults F).dueReport f) s.link.faultReports }) := by
  rw [State.acting, reportDue_eq, action_dueReport, action_faultReports]

theorem acting_faultReports : (s.acting F f).link.faultReports =
    placeFaultReport ((s.setFaults F).dueReport f) s.link.faultReports := by
  rw [acting_eq]
  simp only [chooseInfeed_frame, setLink_link]

/-- But for the fault unit, the infeed, the events and the FAULT reports there is the action alone. -/
theorem restOf_acting : { s.acting F f with
    faults := s.faults, infeed := s.infeed, events := s.events
    link := { (s.acting F f).link with faultReports := s.link.faultReports } } =
    s.restOf (s.action F f) := by
  have hlink : { (s.acting F f).link with faultReports := s.link.faultReports } =
      (s.action F f).link := by
    rw [acting_eq, ← action_faultReports s F f]
    simp only [chooseInfeed_frame, setLink_link]
  rw [hlink, acting_eq, chooseInfeed_eq]
  rfl

theorem acting_reads : (s.acting F f).belt = (s.action F f).belt ∧
    (s.acting F f).tracking = (s.action F f).tracking ∧
    (s.acting F f).lanes = (s.action F f).lanes := by
  rw [acting_eq]
  simp

theorem acting_infeed : (s.acting F f).infeed = { s.infeed with
    state := (s.acting F f).infeedChoice
    holdPool := s.infeed.holdPool ||
      decide (((s.setFaults F).source f).cls = .recover ∧ f = .poolExhausted)
    holdJam := s.infeed.holdJam ||
      decide (((s.setFaults F).source f).cls = .recover ∧ f = .entryJam) } := by
  have hholds := takeAction_infeed f (s.setFaults F)
  have hchosen : (s.acting F f).infeed =
      { (s.action F f).infeed with state := (s.acting F f).infeedChoice } := by
    rw [acting_eq, chooseInfeed_choice, chooseInfeed_infeed]
    rfl
  rw [hchosen]
  exact congrArg (fun i : Infeed => { i with state := (s.acting F f).infeedChoice }) hholds

end

end Sys2Proof.Machine
end

section
/-! SUPPORT. An occurrence of a source, latching and repeated (R145 to R152, R159). -/

namespace Sys2Proof.Machine

section
variable {s : State} {f : FaultSource}

theorem takeAction_record (h : (s.source f).cls = .record) : takeAction f s = s := by
  rw [takeAction, h]

theorem takeAction_recover (h : (s.source f).cls = .recover) :
    takeAction f s = recoverAction f s := by
  rw [takeAction, h]

theorem takeAction_halt (h : (s.source f).cls = .halt) : takeAction f s = beltHalt s := by
  rw [takeAction, h]

theorem takeAction_stop (h : (s.source f).cls = .stop) : takeAction f s = stopAction s := by
  rw [takeAction, h]

end

section
variable (s : State) (F : FaultUnit) (f : FaultSource)

theorem actionTaken_acting : s.ActionTaken (s.acting F f) f := by
  obtain ⟨hbelt, htracking, hlanes⟩ := acting_reads s F f
  have haction : s.action F f = takeAction f (s.setFaults F) := rfl
  unfold State.ActionTaken
  intro cls acted
  have hacted : acted = s.restOf (s.action F f) := restOf_acting s F f
  have hclass : ((s.setFaults F).source f).cls = cls :=
    (congrArg (·.cls) (acting_source s F f f)).symm
  have hinfeed := acting_infeed s F f
  rw [hclass] at hinfeed
  rw [acting_source, hacted]
  refine ⟨hinfeed, fun h => ?record, fun h => ⟨fun hscope => ?hold,
    fun hscope => ⟨fun l => ?fenced, ?fences⟩⟩, fun h => ?halt, fun h => ?stop⟩
  all_goals rw [h] at hclass
  case record =>
    rw [takeAction_record hclass] at haction
    rw [haction]
    rfl
  case hold =>
    rw [takeAction_recover hclass] at haction
    rw [haction, recoverAction_unscoped hscope]
    rfl
  case fenced =>
    rw [takeAction_recover hclass] at haction
    have hlane : (s.acting F f).lane l =
        if ((s.setFaults F).source f).laneSet.getLsbD l.val then (s.lane l).fenced
        else s.lane l := by
      rw [lane_congr hlanes, haction, recoverAction_scoped hscope, fenceLanes_lane]
      rfl
    rw [hlane]
    by_cases hl : ((s.setFaults F).source f).laneSet.getLsbD l.val = true
    · rw [if_pos hl, if_pos hl]
      exact fenced_state _
    · rw [if_neg hl, if_neg hl]
  case fences =>
    rw [takeAction_recover hclass] at haction
    rw [haction, recoverAction_scoped hscope]
    exact restOf_fenceLanes s _ _
  case halt =>
    rw [takeAction_halt hclass] at haction
    rw [haction]
    exact restOf_beltHalt s _
  case stop =>
    rw [takeAction_stop hclass] at haction
    have hlink : (s.action F f).link = s.purgedLink := by
      rw [haction, stopAction_link]
      rfl
    refine ⟨?_, ?_, hlink, fun l => ?_, ?_⟩
    · rw [hbelt, haction, stopAction_belt, beltBrake_belt]
      rfl
    · rw [htracking, haction, stopAction_tracking]
      rfl
    · rw [lane_congr hlanes, haction]
      exact stopAction_lane _ l
    · rw [haction]
      exact restOf_stopAction s _

end

/-! ## An occurrence that latches -/

/-- The fault unit with source `f` latched by an occurrence that names `lane` or none (R145). -/
def State.latching (s : State) (f : FaultSource) (lane : Option LaneId) : FaultUnit :=
  (s.setSource f ((s.source f).latchedBy lane)).faults

theorem latching_source (s : State) (f : FaultSource) (lane : Option LaneId) :
    (s.setFaults (s.latching f lane)).source f = (s.source f).latchedBy lane :=
  setSource_source_same s f _

theorem faultOccur_acting {s : State} {f : FaultSource} (hl : (s.source f).latched = false)
    (hm : (s.source f).masked = false) (lane : Option LaneId) :
    faultOccur f lane s = s.acting ((s.latching f lane).capturing f) f :=
  (faultOccur_of_acts hl hm lane).trans (acting_capturing s _ f)

theorem faultOccur_source_latches {s : State} {f : FaultSource} (hl : (s.source f).latched = false)
    (lane : Option LaneId) : (faultOccur f lane s).source f = (s.source f).latchedBy lane := by
  rw [faultOccur_source, if_pos rfl, SourceState.occurred, hl]
  rfl

theorem faultOccur_chosen {s : State} {f : FaultSource} (hl : (s.source f).latched = false)
    (lane : Option LaneId) : (faultOccur f lane s).InfeedChosen := by
  cases hm : (s.source f).masked with
  | true =>
    rw [faultOccur_of_masked hl hm]
    exact chooseInfeed_chosen _
  | false =>
    rw [faultOccur_acting hl hm]
    exact chooseInfeed_chosen _

/-- The report of a source that an occurrence latches (R159). -/
theorem dueReport_latching {s : State} {f : FaultSource} {lane : Option LaneId}
    (hlane : lane.isSome = true → f.laneScoped = true) :
    (s.setFaults ((s.latching f lane).capturing f)).dueReport f =
      { source := f, count := min 255 ((s.source f).count + 1), cls := (s.source f).cls
        first := decide (s.faults.first.getD f = f), lane := lane } := by
  have hkept : (if f.laneScoped then lane else none) = lane := by
    cases lane with
    | none => exact ite_self none
    | some l => exact if_pos (hlane rfl)
  have hsource : (s.setFaults ((s.latching f lane).capturing f)).source f =
      (s.source f).latchedBy lane := latching_source s f lane
  have hfirst : decide (((s.latching f lane).capturing f).first = some f) =
      decide (s.faults.first.getD f = f) := decide_eq_decide.2 Option.some_inj
  unfold State.dueReport
  rw [hsource, setFaults_faults, hfirst]
  simp only [SourceState.latchedBy, hkept]
  rfl

/-- Settles O44: the source, then what its class's action leaves. -/
theorem faultLatchesAndActs : Obligations.FaultLatchesAndActs := by
  intro s f lane hl hlane t count report
  have hsource : t.source f = (s.source f).latchedBy lane := faultOccur_source_latches hl lane
  refine ⟨⟨hsource, fun g hg => ?_, faultOccur_chosen hl lane⟩, fun hm => ⟨?_, ?_⟩, fun hm => ?_⟩
  · show (faultOccur f lane s).source g = s.source g
    rw [faultOccur_source, if_neg hg]
  · show (faultOccur f lane s).faults.first = s.faults.first
    rw [faultOccur_faults, hm, Bool.or_true]
    rfl
  · show ({ faultOccur f lane s with
      faults := s.faults, infeed := s.infeed, events := s.events } : State) = s
    rw [faultOccur_of_masked hl hm, chooseInfeed_eq]
    rfl
  · have hacting : t = s.acting ((s.latching f lane).capturing f) f := faultOccur_acting hl hm lane
    have hreports : t.link.faultReports = placeFaultReport report s.link.faultReports := by
      rw [hacting, acting_faultReports, dueReport_latching hlane]
    obtain ⟨hinfeed, hrecord, hrecover, hhalt, hstop⟩ : s.ActionTaken t f :=
      hacting ▸ actionTaken_acting s _ f
    have hcls : (t.source f).cls = (s.source f).cls := congrArg (·.cls) hsource
    rw [hcls] at hinfeed hrecord hrecover hhalt hstop
    refine ⟨?_, fun hnew => ?_, fun before old after hq ho hb => ?_, hrecord, fun hc => ?_,
      fun hc => ?_, fun hc => ⟨fun l hsome => ?_, fun hpool => ?_, fun hjam => ?_⟩⟩
    · rw [hacting, acting_faults]
      rfl
    · rw [hreports, placeFaultReport_new report _ hnew]
    · rw [hreports, hq, placeFaultReport_old report old before after ho hb]
    · have hrest := hhalt hc
      exact ⟨congrArg (·.belt) hrest, congrArg (fun a : State => { a with belt := s.belt }) hrest⟩
    · obtain ⟨hbelt, htracking, hlink, hlanes, hrest⟩ := hstop hc
      exact ⟨hbelt, htracking, hlink, hlanes, hrest⟩
    · have hset : (t.source f).laneSet = laneBit l := by
        rw [hsource, hsome]
        rfl
      obtain ⟨hfenced, -⟩ := (hrecover hc).2 (hlane (by rw [hsome]; rfl))
      rw [hset] at hfenced
      have hin (m : LaneId) := hfenced m
      simp only [laneBit_getLsbD, decide_eq_true_eq] at hin
      exact ⟨(if_pos rfl).mp (hin l), fun m hm => (if_neg hm).mp (hin m)⟩
    · have hrest := (hrecover hc).1 (by rw [hpool]; rfl)
      refine ⟨?_, congrArg (·.lanes) hrest⟩
      exact (congrArg (·.holdPool) hinfeed).trans
        ((congrArg (s.infeed.holdPool || ·) (decide_eq_true ⟨hc, hpool⟩)).trans (Bool.or_true _))
    · have hrest := (hrecover hc).1 (by rw [hjam]; rfl)
      refine ⟨?_, congrArg (·.lanes) hrest⟩
      exact (congrArg (·.holdJam) hinfeed).trans
        ((congrArg (s.infeed.holdJam || ·) (decide_eq_true ⟨hc, hjam⟩)).trans (Bool.or_true _))

/-! ## An occurrence that repeats -/

section
variable {s : State} {f : FaultSource}

theorem faultOccur_counts (hl : (s.source f).latched = true) {lane : Option LaneId}
    (h : lane = none ∨ f.laneScoped = false ∨
      ∃ l, lane = some l ∧ (s.source f).laneSet.getLsbD l.val = true) :
    faultOccur f lane s = s.setSource f (s.source f).counted := by
  refine (faultOccur_of_latched hl lane).trans ?_
  cases lane with
  | none => rfl
  | some l =>
    refine if_pos ?_
    rcases h with h | h | ⟨m, hm, hset⟩
    · cases h
    · exact .inl h
    · rw [Option.some.inj hm]
      exact .inr hset

theorem faultOccur_joins (hl : (s.source f).latched = true) {l : LaneId}
    (hscope : f.laneScoped = true) (hset : (s.source f).laneSet.getLsbD l.val = false) :
    faultOccur f (some l) s =
      if (s.source f).masked = false ∧ (s.source f).cls = .recover then
        fenceLane l (s.setSource f { (s.source f).counted with
          laneSet := (s.source f).laneSet ||| laneBit l })
      else s.setSource f { (s.source f).counted with
        laneSet := (s.source f).laneSet ||| laneBit l } := by
  have hjoins : ¬ (f.laneScoped = false ∨ (s.source f).laneSet.getLsbD l.val = true) := by
    rw [hscope, hset]
    decide
  exact (faultOccur_of_latched hl _).trans (if_neg hjoins)

end

/-- Settles O45: a repeat that counts, one whose lane joins, one whose lane is fenced. -/
theorem faultRepeatsAreCounted : Obligations.FaultRepeatsAreCounted := by
  intro s f lane hl x
  refine ⟨fun h => ?_, fun l hlane hscope => ⟨fun hset => ?_, fun hset => ⟨fun h => ?_,
    fun hm hc => ?_⟩⟩⟩
  · exact faultOccur_counts hl (h.imp id .inl)
  · exact faultOccur_counts hl (.inr (.inr ⟨l, hlane, hset⟩))
  · subst hlane
    refine (faultOccur_joins hl hscope hset).trans (if_neg fun ⟨hm, hc⟩ => ?_)
    rcases h with h | h
    · exact absurd (h.symm.trans hm) (by decide)
    · exact h hc
  · subst hlane
    have hfence := (faultOccur_joins hl hscope hset).trans (if_pos ⟨hm, hc⟩)
    intro t
    have ht : t = fenceLane l (s.setSource f { (s.source f).counted with
      laneSet := (s.source f).laneSet ||| laneBit l }) := hfence
    rw [ht]
    refine ⟨?_, ?_, ?_, fun m hm => ?_⟩
    · simp only [fenceLane_frame]
      rfl
    · rw [(fenceLane_counts ..).faultReports]
      rfl
    · rw [fenceLane_lane, if_pos rfl]
      exact fenced_state _
    · rw [fenceLane_lane, if_neg hm]
      rfl

end Sys2Proof.Machine
end

section
/-! SUPPORT. FAULT_MASK and FAULT_ACTION (R148, R156, R157). -/

namespace Sys2Proof.Machine

/-! ## Replies of the fault commands, and sets of one source -/

/-- The latched set and the first fault as a fault command's reply carries them (R155, R158). -/
theorem faultSummary_latchedFields (s : State) : s.FaultSummary s.latchedFields :=
  ⟨s.latchedSet, sourceSet_isSourceSet s _, rfl⟩

theorem lowestActing_congr {s t : State} (h : ∀ f, t.source f = s.source f) :
    t.lowestActing = s.lowestActing := by
  unfold State.lowestActing
  simp only [h]

theorem inSourceSet_zero (f : FaultSource) : inSourceSet 0 f = false := by
  simp [inSourceSet]

theorem inSourceSet_single (f g : FaultSource) :
    inSourceSet (1#16 <<< f.idx.val) g = decide (g = f) := by
  cases f <;> cases g <;> decide

theorem foldl_named_none (op : FaultSource → State → State) (s : State) :
    FaultSource.all.foldl (fun t f => if inSourceSet 0 f then op f t else t) s = s :=
  foldl_invariant (fun t => t = s) _ (fun t f ht => by
    rw [inSourceSet_zero, if_neg Bool.false_ne_true, ht]) _ s rfl

/-- In source order a set of one source names that one alone. -/
theorem foldl_named_single (op : FaultSource → State → State) (f : FaultSource) (s : State) :
    FaultSource.all.foldl
      (fun t g => if inSourceSet (1#16 <<< f.idx.val) g then op g t else t) s = op f s := by
  simp only [inSourceSet_single, decide_eq_true_eq]
  cases f <;> simp [FaultSource.all]

theorem exec_faultMask {s : State} {f : Frame} {set clear : BitVec 16} (h : s.Ready f)
    (hk : f.kind = 0x42) (hp : parseFaultMask f.payload = some (set, clear)) :
    exec .faultMask s = .next ((changeMasks set clear s.taken).answered f .ok
      (setBytes (changeMasks set clear s.taken).maskedSet ++
        (changeMasks set clear s.taken).latchedFields)) := by
  show execFaultMask s = _
  rw [execFaultMask, onCommand_ready h hk hp]
  dsimp only
  rw [replyOk_eq_answered]

theorem exec_faultAction {s : State} {f : Frame} {src : FaultSource} {cls : ActionClass}
    (h : s.Ready f) (hk : f.kind = 0x43) (hp : parseFaultAction f.payload = some (src, cls)) :
    exec .faultAction s = .next ((changeClass src cls s.taken).answered f .ok
      (s.taken.actionFields src cls)) := by
  show execFaultAction s = _
  rw [execFaultAction, onCommand_ready h hk hp]
  dsimp only
  rw [replyOk_eq_answered]

/-! ## The set-list -/

theorem maskSources_zero (s : State) : maskSources 0 s = s := by
  have hsources : (mapSources 0 (fun x => { x with masked := true }) s).faults.sources =
      s.faults.sources := by
    refine Vector.ext fun i hi => ?_
    simp [mapSources]
  have hmap : mapSources 0 (fun x => { x with masked := true }) s = s :=
    congrArg (fun v => s.setFaults { s.faults with sources := v }) hsources
  have hnone : s.faults.first.any (inSourceSet 0) = false := by
    cases s.faults.first with
    | none => rfl
    | some f => exact inSourceSet_zero f
  rw [maskSources, hmap, reselectFirst, hnone, if_neg Bool.false_ne_true]

theorem maskSources_first (set : BitVec 16) (s : State) :
    (maskSources set s).faults.first =
      if s.faults.first.any (inSourceSet set) then (maskSources set s).lowestActing
      else s.faults.first := by
  have hlowest : (maskSources set s).lowestActing =
      (mapSources set (fun x => { x with masked := true }) s).lowestActing :=
    lowestActing_congr (reselectFirst_source _ _)
  rw [hlowest]
  exact reselectFirst_first _ _

theorem setFaults_restored (s : State) (F : FaultUnit) :
    { s.setFaults F with faults := s.faults } = s := rfl

theorem maskSources_rest (set : BitVec 16) (s : State) :
    { maskSources set s with faults := s.faults } = s := by
  unfold maskSources reselectFirst mapSources
  split
  · exact setFaults_restored s _
  · exact setFaults_restored s _

theorem unmaskSources_zero (s : State) : unmaskSources 0 s = s := by
  rw [unmaskSources, foldl_named_none]

theorem unmaskSources_single (f : FaultSource) (s : State) :
    unmaskSources (1#16 <<< f.idx.val) s = unmaskSource f s := by
  rw [unmaskSources, foldl_named_single]

theorem chooseInfeed_source (s : State) (f : FaultSource) :
    (chooseInfeed s).source f = s.source f := source_congr (by simp) f

theorem changeMasks_set (set : BitVec 16) (s : State) :
    changeMasks set 0 s = chooseInfeed (maskSources set s) := by
  rw [changeMasks, unmaskSources_zero]

/-! ## The clear-list of one source -/

theorem changeMasks_clear (f : FaultSource) (s : State) :
    changeMasks 0 (1#16 <<< f.idx.val) s = chooseInfeed (unmaskSource f s) := by
  rw [changeMasks, maskSources_zero, unmaskSources_single]

section
variable {s : State} {f : FaultSource}

theorem unmaskSource_idle (h : (s.source f).masked = false ∨ (s.source f).latched = false) :
    unmaskSource f s = s.setSource f { s.source f with masked := false } :=
  if_neg (by rcases h with h | h <;> simp [h])

/-- The fault unit with source `f` unmasked (R156). -/
def State.unmasking (s : State) (f : FaultSource) : FaultUnit :=
  (s.setSource f { s.source f with masked := false }).faults

theorem unmasking_source (g : FaultSource) : (s.setFaults (s.unmasking f)).source g =
    if g = f then { s.source f with masked := false } else s.source g :=
  setSource_source s f g _

/-- A masked latched source that is unmasked comes to act (R156). -/
theorem changeMasks_acts (hm : (s.source f).masked = true) (hl : (s.source f).latched = true) :
    changeMasks 0 (1#16 <<< f.idx.val) s = s.acting ((s.unmasking f).capturing f) f := by
  have hacts : unmaskSource f s =
      actAndReport f (s.setSource f { s.source f with masked := false }) := if_pos (by simp [hm, hl])
  rw [changeMasks_clear, hacts]
  exact acting_capturing s (s.unmasking f) f

end

/-! ## FAULT_ACTION -/

section
variable {s : State} {f : FaultSource} {cls : ActionClass}

theorem raises_eq_false (h : (s.source f).latched = false ∨ (s.source f).masked = true ∨
    cls.rank ≤ (s.source f).cls.rank) : s.raises f cls = false := by
  unfold State.raises SourceState.acting
  rcases h with h | h | h <;> simp [h]

theorem raises_eq_true (hl : (s.source f).latched = true) (hm : (s.source f).masked = false)
    (hr : (s.source f).cls.rank < cls.rank) : s.raises f cls = true := by
  simp [State.raises, SourceState.acting, hl, hm, hr]

theorem changeClass_stored (h : s.raises f cls = false) :
    changeClass f cls s = chooseInfeed (s.withSource f { s.source f with cls := cls }) :=
  congrArg chooseInfeed (if_neg (by simp [h]))

theorem changeClass_acts (h : s.raises f cls = true) :
    changeClass f cls s =
      s.acting (s.withSource f { s.source f with cls := cls }).faults f :=
  congrArg chooseInfeed (if_pos h)

theorem actionFields_eq {b : Bool} (h : s.raises f cls = b) : s.actionFields f cls =
    [byteOf f.idx.val, (s.source f).cls.code, cls.code, flagByte b] := by
  rw [State.actionFields, h]

theorem withSource_source_same (s : State) (f : FaultSource) (x : SourceState) :
    (s.withSource f x).source f = x := setSource_source_same s f x

end

/-- The report of a class action stands in the queue (R159). -/
theorem dueReport_mem_acting (s : State) (F : FaultUnit) (f : FaultSource) :
    (s.setFaults F).dueReport f ∈ (s.acting F f).link.faultReports := by
  rw [acting_faultReports]
  exact mem_placeFaultReport _ _

/-- Settles O47: the two lists and the class, each with the action it takes. -/
theorem faultMaskAndAction : Obligations.FaultMaskAndAction := by
  refine ⟨fun s f set clear h hk hp => ⟨fun hclear => ?_, fun src hset hclear => ⟨fun hidle => ?_,
    fun hm hl => ?_⟩⟩, fun s f src cls h hk hp => ⟨fun hidle => ?_, fun hl hm hr => ?_⟩⟩
  · subst hclear
    refine ⟨_, _, _, exec_faultMask h hk hp, sourceSet_isSourceSet _ _,
      faultSummary_latchedFields _, fun src => ?_, ?_, ?_⟩
    · rw [changeMasks_set, chooseInfeed_source, maskSources_source]
      show _ = { s.source src with masked := (s.source src).masked || inSourceSet set src }
      split
      · simp [*]
      · simp [*]
    · rw [changeMasks_set, lowestActing_congr (chooseInfeed_source _), chooseInfeed_eq]
      exact maskSources_first set s.taken
    · rw [changeMasks_set, chooseInfeed_eq]
      have hrest := maskSources_rest set s.taken
      exact congrArg (fun t : State => { t with infeed := s.infeed, events := s.events }) hrest
  · subst hset hclear
    have hexec := exec_faultMask h hk hp
    rw [changeMasks_clear, unmaskSource_idle (s := s.taken) hidle] at hexec
    exact ⟨_, hexec⟩
  · subst hset hclear
    have hacts := changeMasks_acts (s := s.taken) hm hl
    refine ⟨_, _, _, exec_faultMask h hk hp, sourceSet_isSourceSet _ _,
      faultSummary_latchedFields _, ?_⟩
    rw [hacts]
    have hsource (g : FaultSource) := (acting_source s.taken
      ((s.taken.unmasking src).capturing src) src g).trans
        (unmasking_source (s := s.taken) (f := src) g)
    have hreport : (s.taken.setFaults ((s.taken.unmasking src).capturing src)).source src =
        { s.source src with masked := false } := (unmasking_source src).trans (if_pos rfl)
    refine ⟨actionTaken_acting _ _ _, (hsource src).trans (if_pos rfl),
      fun g hg => (hsource g).trans (if_neg hg), ?_, _, dueReport_mem_acting _ _ _, rfl,
      congrArg (·.count) hreport, congrArg (·.cls) hreport, decide_eq_decide.2 Option.some_inj⟩
    rw [acting_faults]
    rfl
  · exact (exec_faultAction h hk hp).trans (by
      rw [changeClass_stored (s := s.taken) (raises_eq_false hidle),
        actionFields_eq (s := s.taken) (raises_eq_false hidle)]
      rfl)
  · have hraises := raises_eq_true (s := s.taken) hl hm hr
    have hacts := changeClass_acts hraises
    refine ⟨_, (exec_faultAction h hk hp).trans (by rw [actionFields_eq hraises]; rfl), ?_⟩
    rw [hacts]
    have hreport := withSource_source_same s.taken src { s.source src with cls := cls }
    exact ⟨actionTaken_acting _ _ _, acting_faults _ _ _, _, dueReport_mem_acting _ _ _, rfl,
      congrArg (·.cls) hreport, congrArg (·.count) hreport, rfl⟩

end Sys2Proof.Machine
end

section
/-! SUPPORT. What every occurrence keeps, by the class actions and the fence action (R145 to R152). -/

namespace Sys2Proof.Machine

/-- What occurrences of a source keep, its re-latch keeps (R142, R155). -/
theorem relatch_invariant {P : State → Prop} {s : State} (f : FaultSource)
    (occur : ∀ {s : State} (lane : Option LaneId), P s → P (faultOccur f lane s)) (h : P s) :
    P (relatch f s) := by
  unfold relatch
  split
  · split
    · refine forLanes_invariant P _ (fun l t ht => ?_) s h
      split
      · exact occur _ ht
      · exact ht
    · exact occur _ h
  · exact h

/-- A property of the belt, the tracking table, the lanes and the jam hold that every class action and
every fence action keeps. -/
structure KeptByActions (P : State → Prop) : Prop where
  congr : ∀ {s t : State}, t.belt = s.belt → t.tracking = s.tracking → t.lanes = s.lanes →
    t.infeed.holdJam = s.infeed.holdJam → P s → P t
  action : ∀ {s : State} (f : FaultSource), P s → P (takeAction f s)
  fence : ∀ {s : State} (l : LaneId), P s → P (fenceLane l s)

section
variable {P : State → Prop} (K : KeptByActions P)
include K

theorem KeptByActions.chooseInfeed {s : State} (h : P s) : P (chooseInfeed s) :=
  K.congr (by simp) (by simp) (by simp) (by rw [chooseInfeed_infeed]) h

theorem KeptByActions.repeatOccurrence {s : State} (f : FaultSource) (lane : Option LaneId)
    (h : P s) : P (repeatOccurrence f lane s) := by
  have hset (x : SourceState) : P (s.setSource f x) := K.congr (s := s) rfl rfl rfl rfl h
  unfold Machine.repeatOccurrence
  cases lane with
  | none => exact hset _
  | some l =>
    dsimp only
    split
    · exact hset _
    · split
      · exact K.fence l (hset _)
      · exact hset _

theorem KeptByActions.faultOccur {s : State} (f : FaultSource) (lane : Option LaneId) (h : P s) :
    P (faultOccur f lane s) := by
  have hset (F : FaultUnit) : P (s.setFaults F) := K.congr (s := s) rfl rfl rfl rfl h
  cases hl : (s.source f).latched with
  | true =>
    rw [faultOccur_of_latched hl]
    exact K.repeatOccurrence f lane h
  | false =>
    cases hm : (s.source f).masked with
    | true =>
      rw [faultOccur_of_masked hl hm]
      exact K.chooseInfeed (hset _)
    | false =>
      rw [faultOccur_acting hl hm, acting_eq]
      have hact : P (s.action ((s.latching f lane).capturing f) f) := K.action f (hset _)
      exact K.chooseInfeed (K.congr (s := s.action ((s.latching f lane).capturing f) f)
        rfl rfl rfl rfl hact)

theorem KeptByActions.relatchIn {s : State} (set : BitVec 16) (f : FaultSource) (h : P s) :
    P (relatchIn set f s) := by
  unfold Machine.relatchIn
  split
  · exact relatch_invariant f (K.faultOccur f) h
  · exact h

end

theorem takeAction_cases {P : State → Prop} {s : State} (f : FaultSource) (h : P s)
    (hinfeed : ∀ i : Infeed, (s.infeed.holdJam = true → i.holdJam = true) → P (s.setInfeed i))
    (hfence : ∀ t (l : LaneId), P t → P (fenceLane l t))
    (hhalt : P (beltHalt s)) (hstop : P (stopAction s)) : P (takeAction f s) := by
  cases hcls : (s.source f).cls with
  | record =>
    rw [takeAction_record hcls]
    exact h
  | recover =>
    rw [takeAction_recover hcls]
    cases hscoped : f.laneScoped with
    | false =>
      rw [recoverAction_unscoped hscoped]
      exact hinfeed _ fun hj => by simp [hj]
    | true =>
      rw [recoverAction_scoped hscoped]
      refine forLanes_invariant P _ (fun l t ht => ?_) s h
      split
      · exact hfence t l ht
      · exact ht
  | halt =>
    rw [takeAction_halt hcls]
    exact hhalt
  | stop =>
    rw [takeAction_stop hcls]
    exact hstop

/-! ## The jam hold -/

/-- The infeed waits for the entry jam's recovery (R28). -/
def HeldForJam (s : State) : Prop := s.infeed.holdJam = true

theorem heldForJam_congr {s t : State} (hi : t.infeed.holdJam = s.infeed.holdJam)
    (h : HeldForJam s) : HeldForJam t := hi.trans h

theorem holdJam_of_state {i j : Infeed} {x : InfeedState} (h : { i with state := x } = j) :
    i.holdJam = j.holdJam := by rw [← h]

theorem fenceLane_heldForJam {s : State} (l : LaneId) (h : HeldForJam s) :
    HeldForJam (fenceLane l s) := heldForJam_congr (by simp) h

theorem keptByActions_heldForJam : KeptByActions HeldForJam where
  congr _ _ _ hi h := heldForJam_congr hi h
  action {s} f h := by
    have hhalt := holdJam_of_state (beltHalt_infeed s)
    have hstop := holdJam_of_state (stopAction_infeed s)
    exact takeAction_cases f h (fun i hi => hi h) (fun t l ht => fenceLane_heldForJam l ht)
      (heldForJam_congr hhalt h) (heldForJam_congr hstop h)
  fence l h := fenceLane_heldForJam l h

/-! ## The lanes' jam flags -/

theorem fenced_jam (u : LaneUnit) : u.fenced.jam = u.jam := by
  unfold LaneUnit.fenced LaneUnit.closed
  cases u.state <;> simp

theorem fenceLane_jam (l m : LaneId) (s : State) :
    ((fenceLane l s).lane m).jam = (s.lane m).jam := by
  rw [fenceLane_lane]
  split
  · subst_vars
    exact fenced_jam _
  · rfl

theorem stopAction_jam (s : State) (l : LaneId) :
    ((stopAction s).lane l).jam = (s.lane l).jam := by
  have hretract : ((forLanes retractRequest (beltBrake s)).lane l).jam = (s.lane l).jam := by
    rw [forLanes_lane retractRequest (fun _ u => if u.phase = .extend then
      { u.cutShort with state := u.cutShort.exitState } else u)
      (fun l t m => retractRequest_lane l m t), lane_congr (s := s) (by simp)]
    split
    · simp
    · rfl
  obtain ⟨-, -, -, -, -, -, -, hemptied⟩ :=
    emptied_frame ((forLanes retractRequest (beltBrake s)).lane l)
  rw [stopAction, purge_lane]
  split
  · exact hretract
  · exact hemptied.trans hretract

/-- The lanes' jam flags are those of `s` (R133). -/
def SameJams (s t : State) : Prop := ∀ l : LaneId, (t.lane l).jam = (s.lane l).jam

theorem keptByActions_sameJams (s : State) : KeptByActions (SameJams s) where
  congr _ _ hl _ h l := (congrArg (·.jam) (lane_congr hl l)).trans (h l)
  action {t} f h := takeAction_cases f h (fun _ _ => h)
    (fun u l hu m => (fenceLane_jam l m u).trans (hu m))
    (fun l => (congrArg (·.jam) (lane_congr (by simp) l)).trans (h l))
    (fun l => (stopAction_jam t l).trans (h l))
  fence l h m := (fenceLane_jam l m _).trans (h m)

/-! ## A braking belt with nothing tracked -/

theorem fenceLane_untracked {s : State} (h : s.tracking.list = []) (l : LaneId) :
    (fenceLane l s).tracking = s.tracking := by
  have hrunout (item : Nat) (t : State) (ht : t.tracking = s.tracking) :
      (enterRunout item .withdrawn t).tracking = s.tracking := by
    have hnone : t.tracked item = none := by rw [State.tracked, ht, h]; rfl
    rw [enterRunout, hnone]
    exact ht
  have hwithdraw (t : State) (ht : t.tracking = s.tracking) :
      (withdrawReserved l t).tracking = s.tracking :=
    foldl_invariant (fun u : State => u.tracking = s.tracking) _
      (fun u e hu => hrunout e.item u hu) _ _ ht
  have hclosing (t : ClosingTarget) : (enterClosing l t s).tracking = s.tracking := by
    unfold enterClosing
    simp only [testExit_frame, modifyLane_frame]
    exact hwithdraw _ (by simp)
  unfold fenceLane
  split
  · exact hclosing _
  · exact hclosing _
  · simp
  · simp
  · rfl

theorem purgedTracking_of_empty {s : State} (hlist : s.tracking.list = [])
    (hfences : s.tracking.fences = []) : s.purgedTracking = s.tracking := by
  have hsame : s.tracking =
      { s.tracking with list := [], fatePending := s.tracking.fatePending, fences := [] } := by
    rw [← hlist, ← hfences]
  rw [State.purgedTracking, hlist, List.map_nil, List.append_nil]
  exact hsame.symm

/-- The tracking table is `T`. -/
def TracksAs (T : Tracking) (s : State) : Prop := s.tracking = T

theorem keptByActions_tracksAs {T : Tracking} (hlist : T.list = []) (hfences : T.fences = []) :
    KeptByActions (TracksAs T) := by
  have hfence {s : State} (l : LaneId) (h : TracksAs T s) : TracksAs T (fenceLane l s) :=
    (fenceLane_untracked ((congrArg (·.list) h).trans hlist) l).trans h
  refine ⟨fun _ ht _ _ h => ht.trans h, fun {s} f h => ?_, hfence⟩
  have hpurged : s.purgedTracking = s.tracking :=
    purgedTracking_of_empty ((congrArg (·.list) h).trans hlist)
      ((congrArg (·.fences) h).trans hfences)
  have hhalt : (beltHalt s).tracking = s.tracking := by simp
  exact takeAction_cases f h (fun _ _ => h) (fun t l => hfence l) (hhalt.trans h)
    ((stopAction_tracking s).trans (hpurged.trans h))

/-- The belt is in BRAKE (R15). -/
def Brakes (s : State) : Prop := s.belt.state = .brake

theorem brakes_congr {s t : State} (hb : t.belt = s.belt) (h : Brakes s) : Brakes t := by
  unfold Brakes
  rw [hb]
  exact h

theorem keptByActions_brakes : KeptByActions Brakes := by
  have hfence {s : State} (l : LaneId) (h : Brakes s) : Brakes (fenceLane l s) :=
    brakes_congr (by simp) h
  refine ⟨fun hb _ _ _ h => brakes_congr hb h, fun {s} f h => ?_, hfence⟩
  have hbrake : s.belt.state = .brake := h
  have hhalt : (beltHalt s).belt = s.belt := by
    rw [beltHalt_belt, if_pos (.inr (.inl hbrake))]
  have hstop : (stopAction s).belt = s.belt := by
    rw [stopAction_belt, beltBrake_belt, if_pos hbrake]
  exact takeAction_cases f h (fun _ _ => h) (fun t l => hfence l) (brakes_congr hhalt h)
    (brakes_congr hstop h)

end Sys2Proof.Machine
end

section
/-! SUPPORT. FAULT_CLEAR and FAULT_INJECT (R142, R150, R155, R158). -/

namespace Sys2Proof.Machine

/-! ## The re-latch of jammed lanes (R144, R155) -/

/-- The lane set of a source after an occurrence that names a lane not in it (R145, R146). -/
theorem occurred_laneSet {x : SourceState} {l : LaneId} (hl : x.laneSet.getLsbD l.val = false)
    (hempty : x.latched = false → ∀ m : LaneId, x.laneSet.getLsbD m.val = false) (m : LaneId) :
    (x.occurred true (some l)).laneSet.getLsbD m.val =
      (x.laneSet.getLsbD m.val || decide (m = l)) := by
  unfold SourceState.occurred
  cases hlatched : x.latched with
  | false =>
    have hset : (x.latchedBy (some l)).laneSet = laneBit l := rfl
    rw [if_neg Bool.false_ne_true, hset, laneBit_getLsbD, hempty hlatched m, Bool.false_or]
  | true =>
    have hset : (x.repeated true (some l)).laneSet = x.laneSet ||| laneBit l := by
      have hout : ¬ (true = false ∨ x.laneSet.getLsbD l.val = true) := by
        rw [hl]
        decide
      rw [SourceState.repeated, if_neg hout]
    rw [if_pos rfl, hset, BitVec.getLsbD_or, laneBit_getLsbD]

/-- An occurrence that names a lane not yet in the set, of a class that recovers, fences it (R146, R150). -/
theorem faultOccur_recovers {s : State} {f : FaultSource} {l : LaneId} (hscope : f.laneScoped = true)
    (hm : (s.source f).masked = false) (hc : (s.source f).cls = .recover)
    (hset : (s.source f).laneSet.getLsbD l.val = false) (m : LaneId) :
    (faultOccur f (some l) s).lane m = if m = l then (s.lane l).fenced else s.lane m := by
  cases hl : (s.source f).latched with
  | true =>
    rw [faultOccur_joins hl hscope hset, if_pos ⟨hm, hc⟩, fenceLane_lane]
    rfl
  | false =>
    have hsource : (s.setFaults ((s.latching f (some l)).capturing f)).source f =
        (s.source f).latchedBy (some l) := latching_source s f (some l)
    have hcls : ((s.setFaults ((s.latching f (some l)).capturing f)).source f).cls = .recover := by
      rw [hsource]
      exact hc
    have hlanes : ((s.setFaults ((s.latching f (some l)).capturing f)).source f).laneSet =
        laneBit l := by rw [hsource]; rfl
    obtain ⟨-, -, hacting⟩ := acting_reads s ((s.latching f (some l)).capturing f) f
    rw [faultOccur_acting hl hm, lane_congr hacting, State.action, takeAction_recover hcls,
      recoverAction_scoped hscope, fenceLanes_lane, hlanes, laneBit_getLsbD]
    by_cases h : m = l
    · subst h
      rw [if_pos rfl, if_pos (by simp)]
      rfl
    · rw [if_neg h, if_neg (by simp [h])]
      rfl

/-- Lane `l` is fenced, or closing to be. -/
def State.FencedLane (s : State) (l : LaneId) : Prop :=
  (s.lane l).state = .fenced ∨ (s.lane l).state = .closing .fenced

/-- LANE_JAM taken as an occurrence for lane `l` where its jam flag is set (R144). -/
def jamOccur (s : State) (l : LaneId) : State :=
  if (s.lane l).jam then faultOccur .laneJam (some l) s else s

/-- From `u`, with LANE_JAM cleared, to `t` the jams of the lanes in `pre` have occurred. -/
structure JamsTaken (u : State) (pre : List LaneId) (t : State) : Prop where
  jam : SameJams u t
  masked : (t.source .laneJam).masked = (u.source .laneJam).masked
  cls : (t.source .laneJam).cls = (u.source .laneJam).cls
  latched : (t.source .laneJam).latched = pre.any fun m => (u.lane m).jam
  count : (t.source .laneJam).count = pre.countP fun m => (u.lane m).jam
  laneSet : ∀ m : LaneId, (t.source .laneJam).laneSet.getLsbD m.val =
    (decide (m ∈ pre) && (u.lane m).jam)
  fenced : (u.source .laneJam).masked = false → (u.source .laneJam).cls = .recover →
    ∀ m ∈ pre, (u.lane m).jam = true → t.FencedLane m

theorem JamsTaken.nil {u : State} {x : SourceState} (hx : u.source .laneJam = x.cleared) :
    JamsTaken u [] u where
  jam _ := rfl
  masked := rfl
  cls := rfl
  latched := by rw [hx]; rfl
  count := by rw [hx]; rfl
  laneSet m := by rw [hx]; simp [SourceState.cleared]
  fenced _ _ m hm := by cases hm

theorem JamsTaken.skip {u t : State} {pre : List LaneId} (J : JamsTaken u pre t) {l : LaneId}
    (hl : (u.lane l).jam = false) : JamsTaken u (pre ++ [l]) t where
  jam := J.jam
  masked := J.masked
  cls := J.cls
  latched := by simp [J.latched, hl]
  count := by simp [J.count, hl]
  laneSet m := by
    rw [J.laneSet]
    by_cases h : m = l
    · simp [h, hl]
    · simp [h]
  fenced hm hc m hin hj := by
    have hne : m ≠ l := by rintro rfl; rw [hl] at hj; cases hj
    exact J.fenced hm hc m (by simpa [hne] using hin) hj

theorem JamsTaken.occur {u t : State} {pre : List LaneId} (J : JamsTaken u pre t) {l : LaneId}
    (hnew : l ∉ pre) (hlen : pre.length < 255) (hl : (u.lane l).jam = true) :
    JamsTaken u (pre ++ [l]) (faultOccur .laneJam (some l) t) := by
  have hsource : (faultOccur .laneJam (some l) t).source .laneJam =
      (t.source .laneJam).occurred true (some l) := by
    rw [faultOccur_source, if_pos rfl]
    rfl
  obtain ⟨hlatched, hmasked, hcls, hcount⟩ :=
    SourceState.occurred_frame (t.source .laneJam) true (some l)
  have hout : (t.source .laneJam).laneSet.getLsbD l.val = false := by
    rw [J.laneSet, decide_eq_false hnew, Bool.false_and]
  have hempty (h : (t.source .laneJam).latched = false) (m : LaneId) :
      (t.source .laneJam).laneSet.getLsbD m.val = false := by
    rw [J.latched, List.any_eq_false] at h
    rw [J.laneSet, Bool.and_eq_false_iff]
    by_cases hin : m ∈ pre
    · exact .inr (by simpa using h m hin)
    · exact .inl (decide_eq_false hin)
  constructor
  case jam => exact (keptByActions_sameJams u).faultOccur _ _ J.jam
  case masked => rw [hsource, hmasked, J.masked]
  case cls => rw [hsource, hcls, J.cls]
  case latched => simp [hsource, hlatched, hl]
  case count =>
    have hle : pre.countP (fun m => (u.lane m).jam) ≤ pre.length := List.countP_le_length
    rw [hsource, hcount, J.count, List.countP_append]
    simp [hl]
    omega
  case laneSet =>
    intro m
    rw [hsource, occurred_laneSet hout hempty, J.laneSet]
    by_cases h : m = l
    · simp [h, hl]
    · simp [h]
  case fenced =>
    intro hm hc m hin hj
    unfold State.FencedLane
    rw [faultOccur_recovers rfl (J.masked.trans hm) (J.cls.trans hc) hout]
    by_cases h : m = l
    · rw [if_pos h]
      exact fenced_state _
    · rw [if_neg h]
      exact J.fenced hm hc m (by simpa [h] using hin) hj

theorem JamsTaken.foldl {u : State} (post : List LaneId) {pre : List LaneId} {t : State}
    (hall : (pre ++ post).Nodup) (hlen : (pre ++ post).length < 255) (J : JamsTaken u pre t) :
    JamsTaken u (pre ++ post) (post.foldl jamOccur t) := by
  induction post generalizing pre t with
  | nil => simpa using J
  | cons l post ih =>
    have hsplit : pre ++ l :: post = (pre ++ [l]) ++ post := by simp
    have hnew : l ∉ pre := fun h =>
      (List.nodup_append.1 hall).2.2 l h l List.mem_cons_self rfl
    rw [List.foldl_cons]
    rw [hsplit] at hall hlen ⊢
    refine ih hall hlen ?_
    unfold jamOccur
    rw [J.jam l]
    cases hl : (u.lane l).jam with
    | false => exact J.skip hl
    | true => exact J.occur hnew (by simp at hlen; omega) hl

/-- The re-latch of LANE_JAM takes every jammed lane once (R144, R155). -/
theorem jamsTaken_relatch {u : State} {x : SourceState} (hx : u.source .laneJam = x.cleared)
    (hjam : ∃ l : LaneId, (u.lane l).jam = true) :
    JamsTaken u (List.finRange 16) (relatch .laneJam u) := by
  have hcond : u.conditionHolds .laneJam = true := by
    rw [conditionHolds_laneJam, decide_eq_true hjam]
  have hrelatch : relatch .laneJam u = (List.finRange 16).foldl jamOccur u := if_pos hcond
  rw [hrelatch]
  exact (JamsTaken.nil hx).foldl (List.finRange 16) (List.nodup_finRange 16) (by simp)

/-! ## The re-latch of a set -/

theorem relatchIn_named {set : BitVec 16} {f : FaultSource} (h : inSourceSet set f = true)
    (s : State) : relatchIn set f s = relatch f s := if_pos h

theorem relatch_source_of_ne {f g : FaultSource} (h : g ≠ f) (s : State) :
    (relatch f s).source g = s.source g :=
  relatch_invariant (P := fun t : State => t.source g = s.source g) f
    (fun lane ht => by rw [faultOccur_source, if_neg h, ht]) rfl

theorem relatchIn_source_of_ne {f g : FaultSource} (h : g ≠ f) (set : BitVec 16) (s : State) :
    (relatchIn set f s).source g = s.source g := by
  unfold relatchIn
  split
  · exact relatch_source_of_ne h s
  · rfl

theorem relatchIn_frame (set : BitVec 16) (f : FaultSource) (s : State) :
    (relatchIn set f s).position = s.position ∧ (relatchIn set f s).induction = s.induction := by
  unfold relatchIn
  split <;> simp

theorem relatchIn_of_not {set : BitVec 16} {f : FaultSource} {s : State}
    (h : inSourceSet set f = true → s.conditionHolds f = false) : relatchIn set f s = s := by
  cases hset : inSourceSet set f with
  | false => rw [relatchIn, hset, if_neg Bool.false_ne_true]
  | true => rw [relatchIn_named hset, relatch_of_not (h hset)]

theorem relatchSet_of_not {set : BitVec 16} {s : State}
    (h : ∀ f, inSourceSet set f = true → s.conditionHolds f = false) : relatchSet set s = s := by
  rw [relatchSet_eq, relatchIn_of_not (h .estop), relatchIn_of_not (h .entryJam),
    relatchIn_of_not (h .laneJam)]

end Sys2Proof.Machine
end

section
/-! SUPPORT. The statement about FAULT_CLEAR and FAULT_INJECT (R155, R158). -/

namespace Sys2Proof.Machine

theorem exec_faultClear {s : State} {f : Frame} {set : BitVec 16} (h : s.Ready f)
    (hk : f.kind = 0x41) (hp : parseFaultClear f.payload = some set) :
    exec .faultClear s = .next ((clearFaults set s.taken).answered f .ok
      (clearFaults set s.taken).latchedFields) := by
  show execFaultClear s = _
  rw [execFaultClear, onCommand_ready h hk hp, replyOk_eq_answered]

theorem exec_faultInject {s : State} {f : Frame} {set : BitVec 16} {lane : Option LaneId}
    (h : s.Ready f) (hk : f.kind = 0x44) (hp : parseFaultInject f.payload = some (set, lane)) :
    exec .faultInject s = .next ((injectFaults set lane s.taken).answered f .ok
      (injectFaults set lane s.taken).latchedFields) := by
  show execFaultInject s = _
  rw [execFaultInject, onCommand_ready h hk hp]
  dsimp only
  rw [replyOk_eq_answered]

/-! ## What FAULT_CLEAR clears -/

section
variable (set : BitVec 16) (s : State)

/-- Steps 1 and 2 of FAULT_CLEAR, before the first fault is reselected. -/
def State.clearedOf (s : State) (set : BitVec 16) : State :=
  (mapSources set SourceState.cleared s).setInfeed (s.infeed.removeHolds set)

theorem clearSources_eq :
    clearSources set s = reselectFirst (inSourceSet set) (s.clearedOf set) := rfl

theorem clearedOf_restored (s : State) (F : FaultUnit) (i : Infeed) :
    { (s.setFaults F).setInfeed i with faults := s.faults, infeed := s.infeed } = s := rfl

theorem clearSources_rest :
    { clearSources set s with faults := s.faults, infeed := s.infeed } = s := by
  rw [clearSources_eq, reselectFirst, State.clearedOf, mapSources]
  split
  · exact clearedOf_restored s _ _
  · exact clearedOf_restored s _ _

theorem clearSources_infeed : (clearSources set s).infeed = s.infeed.removeHolds set := by
  rw [clearSources_eq, reselectFirst]
  split <;> rfl

theorem clearSources_first : (clearSources set s).faults.first =
    if s.faults.first.any (inSourceSet set) then (clearSources set s).lowestActing
    else s.faults.first := by
  have hlowest : (clearSources set s).lowestActing = (s.clearedOf set).lowestActing :=
    lowestActing_congr (reselectFirst_source _ _)
  rw [hlowest, clearSources_eq, reselectFirst_first]
  rfl

theorem clearSources_blocks : (clearSources set s).position = s.position ∧
    (clearSources set s).induction = s.induction ∧ (clearSources set s).lanes = s.lanes ∧
    (clearSources set s).tracking = s.tracking := by
  have hrest := clearSources_rest set s
  exact ⟨congrArg (·.position) hrest, congrArg (·.induction) hrest, congrArg (·.lanes) hrest,
    congrArg (·.tracking) hrest⟩

end

theorem conditionHolds_congr {s t : State} (hp : t.position = s.position)
    (hi : t.induction = s.induction) (hl : t.lanes = s.lanes) (f : FaultSource) :
    t.conditionHolds f = s.conditionHolds f := by
  have hlane (l : LaneId) : t.lane l = s.lane l := lane_congr hl l
  cases f with
  | estop => exact accepted_congr hp _
  | entryJam => rw [conditionHolds_entryJam, conditionHolds_entryJam, hi]
  | laneJam =>
    rw [conditionHolds_laneJam, conditionHolds_laneJam]
    simp only [hlane]
  | _ => rfl

theorem cleared_named {set : BitVec 16} {f : FaultSource} (h : inSourceSet set f = true)
    (s : State) : (clearSources set s).source f = (s.source f).cleared := by
  rw [clearSources_source, if_pos h]

/-! ## FAULT_CLEAR re-latches what still holds -/

section
variable {set : BitVec 16} {s : State}

/-- ESTOP, cleared while it is asserted, acts again and the belt brakes (R144, R152, R155). -/
theorem clearFaults_estop (hset : inSourceSet set .estop = true)
    (ha : s.accepted .emergencyStop = true) (hm : (s.source .estop).masked = false)
    (hc : (s.source .estop).cls = .stop) :
    ((clearFaults set s).source .estop).latched = true ∧
      Brakes (clearFaults set s) ∧ TracksAs s.purgedTracking (clearFaults set s) := by
  obtain ⟨hposition, -, -, htracking⟩ := clearSources_blocks set s
  have hacc : (clearSources set s).accepted .emergencyStop = true :=
    (accepted_congr hposition _).trans ha
  have hsource := cleared_named hset s
  have hkept {P : State → Prop} (K : KeptByActions P)
      (h : P (faultOccur .estop none (clearSources set s))) : P (clearFaults set s) := by
    rw [clearFaults, relatchSet_eq, relatchIn_named hset, relatch_estop hacc]
    exact K.chooseInfeed (K.relatchIn set .laneJam (K.relatchIn set .entryJam h))
  have hl : ((clearSources set s).source .estop).latched = false := by rw [hsource]; rfl
  have hmask : ((clearSources set s).source .estop).masked = false := by rw [hsource]; exact hm
  have hcls : ((faultOccur .estop none (clearSources set s)).source .estop).cls = .stop := by
    rw [(faultOccur_masked _ _ _ _).2, hsource]
    exact hc
  obtain ⟨-, -, -, -, hstop⟩ : (clearSources set s).ActionTaken
      (faultOccur .estop none (clearSources set s)) .estop :=
    faultOccur_acting hl hmask none ▸ actionTaken_acting _ _ _
  obtain ⟨hbelt, hpurged, -⟩ := hstop hcls
  refine ⟨?_, hkept keptByActions_brakes ?_, hkept (keptByActions_tracksAs rfl rfl) ?_⟩
  · rw [clearFaults, chooseInfeed_source]
    exact relatchSet_estop hset hacc
  · unfold Brakes
    rw [hbelt]
    split
    · assumption
    · rfl
  · unfold TracksAs
    rw [hpurged, State.purgedTracking, htracking]
    rfl

/-- ENTRY_JAM, cleared while induction is JAMMED, has occurred once (R144, R155). -/
theorem clearFaults_entryJam (hset : inSourceSet set .entryJam = true)
    (hj : s.induction.measurement = .jammed) :
    (clearFaults set s).source .entryJam = { s.source .entryJam with
        latched := true, count := 1, laneSet := 0, latchLane := none } ∧
      ((s.source .entryJam).masked = false → (s.source .entryJam).cls = .recover →
        HeldForJam (clearFaults set s)) := by
  obtain ⟨-, hinduction, -⟩ := clearSources_blocks set s
  have hjammed : (relatchIn set .estop (clearSources set s)).induction.measurement = .jammed := by
    rw [(relatchIn_frame ..).2, hinduction, hj]
  have hsource : (relatchIn set .estop (clearSources set s)).source .entryJam =
      (s.source .entryJam).cleared := by
    rw [relatchIn_source_of_ne (by decide), cleared_named hset]
  have hclear : clearFaults set s = chooseInfeed (relatchIn set .laneJam (faultOccur .entryJam none
      (relatchIn set .estop (clearSources set s)))) := by
    rw [clearFaults, relatchSet_eq, relatchIn_named hset, relatch_entryJam hjammed]
  rw [hclear]
  generalize relatchIn set .estop (clearSources set s) = u at hsource
  have hl : (u.source .entryJam).latched = false := by rw [hsource]; rfl
  refine ⟨?_, fun hm hc => ?_⟩
  · rw [chooseInfeed_source, relatchIn_source_of_ne (by decide), faultOccur_source_latches hl,
      hsource]
    rfl
  · refine keptByActions_heldForJam.chooseInfeed (keptByActions_heldForJam.relatchIn set _ ?_)
    have hmask : (u.source .entryJam).masked = false := by rw [hsource]; exact hm
    have hlatching : (u.setFaults ((u.latching .entryJam none).capturing .entryJam)).source
        .entryJam = (u.source .entryJam).latchedBy none := latching_source u .entryJam none
    have hcls : ((u.source .entryJam).latchedBy none).cls = .recover := by
      rw [hsource]
      exact hc
    rw [faultOccur_acting hl hmask]
    unfold HeldForJam
    rw [acting_infeed, hlatching, hcls]
    exact Bool.or_true _

theorem JamsTaken.chooseInfeed {u t : State} {pre : List LaneId} (J : JamsTaken u pre t) :
    JamsTaken u pre (chooseInfeed t) where
  jam := (keptByActions_sameJams u).chooseInfeed J.jam
  masked := by rw [chooseInfeed_source, J.masked]
  cls := by rw [chooseInfeed_source, J.cls]
  latched := by rw [chooseInfeed_source, J.latched]
  count := by rw [chooseInfeed_source, J.count]
  laneSet m := by rw [chooseInfeed_source, J.laneSet]
  fenced hm hc m hin hj := by
    unfold State.FencedLane
    rw [chooseInfeed_lane]
    exact J.fenced hm hc m hin hj

/-- LANE_JAM, cleared while lanes are jammed, has occurred once for each (R144, R155). -/
theorem clearFaults_laneJam (hset : inSourceSet set .laneJam = true)
    (hj : ∃ l : LaneId, (s.lane l).jam = true) :
    ∃ u : State, SameJams s u ∧ (u.source .laneJam) = (s.source .laneJam).cleared ∧
      JamsTaken u (List.finRange 16) (clearFaults set s) := by
  obtain ⟨-, -, hlanes, -⟩ := clearSources_blocks set s
  have hjams : SameJams s (relatchIn set .entryJam (relatchIn set .estop (clearSources set s))) :=
    (keptByActions_sameJams s).relatchIn set _ ((keptByActions_sameJams s).relatchIn set _
      fun l => congrArg (·.jam) (lane_congr hlanes l))
  have hsource : (relatchIn set .entryJam (relatchIn set .estop (clearSources set s))).source
      .laneJam = (s.source .laneJam).cleared := by
    rw [relatchIn_source_of_ne (by decide), relatchIn_source_of_ne (by decide), cleared_named hset]
  refine ⟨_, hjams, hsource, ?_⟩
  rw [clearFaults, relatchSet_eq, relatchIn_named hset]
  obtain ⟨l, hl⟩ := hj
  exact (jamsTaken_relatch hsource ⟨l, (hjams l).trans hl⟩).chooseInfeed

end

/-- Where no named condition holds FAULT_CLEAR clears, and nothing re-latches (R155). -/
theorem clearFaults_of_none {set : BitVec 16} {s : State}
    (h : ∀ f, inSourceSet set f = true → s.conditionHolds f = false) :
    clearFaults set s = chooseInfeed (clearSources set s) := by
  obtain ⟨hposition, hinduction, hlanes, -⟩ := clearSources_blocks set s
  rw [clearFaults, relatchSet_of_not fun f hf =>
    (conditionHolds_congr hposition hinduction hlanes f).trans (h f hf)]

/-! ## FAULT_INJECT -/

theorem injectFaults_latched (set : BitVec 16) (lane : Option LaneId) (s : State)
    (g : FaultSource) : ((injectFaults set lane s).source g).latched =
      ((s.source g).latched || inSourceSet set g) := by
  have hfold (fs : List FaultSource) (t : State) :
      ((fs.foldl (fun t f => if inSourceSet set f then
        faultOccur f (if f.laneScoped then lane else none) t else t) t).source g).latched =
        ((t.source g).latched || (decide (g ∈ fs) && inSourceSet set g)) := by
    induction fs generalizing t with
    | nil => simp
    | cons f fs ih =>
      rw [List.foldl_cons, ih]
      cases hset : inSourceSet set f with
      | false => by_cases h : g = f <;> simp [h, hset]
      | true => by_cases h : g = f <;> simp [h, hset, faultOccur_latched]
  rw [injectFaults, hfold, decide_eq_true g.mem_all, Bool.true_and]

/-- Settles O46: what is cleared, then each level source whose condition holds, and the injection. -/
theorem faultClearAndInject : Obligations.FaultClearAndInject := by
  refine ⟨fun s f set h hk hp => ⟨fun hnone => ?_, fun hset ha hm hc => ?_, ?_⟩,
    fun s f lane h hk => ⟨fun src hp => ?_, fun set hp => ?_⟩⟩
  · refine ⟨_, _, exec_faultClear h hk hp, faultSummary_latchedFields _, ?_⟩
    rw [clearFaults_of_none (s := s.taken) hnone]
    refine ⟨fun src => ?_, ?_, ?_, ?_⟩
    · rw [chooseInfeed_source, clearSources_source]
      rfl
    · rw [lowestActing_congr (chooseInfeed_source _), chooseInfeed_eq]
      exact clearSources_first set s.taken
    · rw [chooseInfeed_choice, chooseInfeed_infeed, clearSources_infeed]
      rfl
    · have hrest := clearSources_rest set s.taken
      rw [chooseInfeed_eq]
      exact congrArg (fun t : State => { t with events := s.events }) hrest
  · obtain ⟨hlatched, hbrake, htracking⟩ := clearFaults_estop (s := s.taken) hset ha hm hc
    exact ⟨_, exec_faultClear h hk hp, hlatched, hbrake, htracking⟩
  · refine ⟨_, _, exec_faultClear h hk hp, faultSummary_latchedFields _, fun hset hj => ?_,
      fun hset hj => ?_⟩
    · exact clearFaults_entryJam (s := s.taken) hset hj
    · obtain ⟨u, hjams, hsource, J⟩ := clearFaults_laneJam (s := s.taken) hset hj
      have hjam (l : LaneId) : (u.lane l).jam = (s.lane l).jam := hjams l
      have hcount := J.count
      have hlatched := J.latched
      simp only [hjam] at hcount hlatched
      refine ⟨?_, hcount, fun l => ?_, fun hm hc l hl => ?_⟩
      · obtain ⟨l, hl⟩ := hj
        rw [hlatched]
        exact List.any_eq_true.2 ⟨l, List.mem_finRange l, hl⟩
      · rw [J.laneSet, hjam, decide_eq_true (List.mem_finRange l), Bool.true_and]
      · exact J.fenced (by rw [hsource]; exact hm) (by rw [hsource]; exact hc) l
          (List.mem_finRange l) ((hjam l).trans hl)
  · have hexec := exec_faultInject h hk hp
    have hone : injectFaults (1#16 <<< src.idx.val) lane s.taken =
        faultOccur src (if src.laneScoped then lane else none) s.taken :=
      foldl_named_single (fun f => faultOccur f (if f.laneScoped then lane else none)) src s.taken
    rw [hone] at hexec
    exact ⟨_, hexec, faultSummary_latchedFields _⟩
  · exact ⟨_, _, exec_faultInject h hk hp, faultSummary_latchedFields _,
      injectFaults_latched set lane s.taken⟩

end Sys2Proof.Machine
end

section
/-! SUPPORT. The gap check, the pool check and the claim (R39 to R45, R52). -/

namespace Sys2Proof.Machine

/-! ## What an occurrence leaves of tracking -/

/-- An occurrence of a source without lanes purges where it stops, and leaves tracking otherwise
(R145 to R152). -/
theorem faultOccur_tracking {f : FaultSource} (hscope : f.laneScoped = false) (s : State) :
    (faultOccur f none s).tracking = s.trackingAfter f := by
  unfold State.trackingAfter
  cases hl : (s.source f).latched with
  | true =>
    rw [faultOccur_counts hl (.inl rfl), if_neg (by simp)]
    rfl
  | false =>
    cases hm : (s.source f).masked with
    | true =>
      rw [faultOccur_of_masked hl hm, if_neg (by simp)]
      simp only [chooseInfeed_frame]
      rfl
    | false =>
      have hcls : ((faultOccur f none s).source f).cls = (s.source f).cls :=
        (faultOccur_masked f none s f).2
      obtain ⟨-, hrecord, hrecover, hhalt, hstop⟩ : s.ActionTaken (faultOccur f none s) f :=
        faultOccur_acting hl hm none ▸ actionTaken_acting _ _ _
      rw [hcls] at hrecord hrecover hhalt hstop
      cases hc : (s.source f).cls with
      | record =>
        rw [if_neg (by simp)]
        exact congrArg (·.tracking) (hrecord hc)
      | recover =>
        rw [if_neg (by simp)]
        exact congrArg (·.tracking) ((hrecover hc).1 hscope)
      | halt =>
        rw [if_neg (by simp)]
        exact congrArg (·.tracking) (hhalt hc)
      | stop => exact (hstop hc).2.1.trans (if_pos (by simp)).symm

/-- A purge moves records, and frees none (R69). -/
theorem trackingAfter_used (s : State) (f : FaultSource) :
    (s.trackingAfter f).list.length + (s.trackingAfter f).fatePending.length =
      s.tracking.list.length + s.tracking.fatePending.length := by
  unfold State.trackingAfter State.purgedTracking
  split
  · simp [Nat.add_comm]
  · rfl

/-! ## The gap check (R39) -/

section
variable {s : State} {lead : Word}

theorem gapResult_clear (h : s.GapClear lead) : s.gapResult lead = .clear := by
  obtain ⟨htrail, hlast⟩ := h
  unfold State.gapResult
  cases hp : s.induction.prevTrail with
  | none =>
    refine if_pos ?_
    cases hr : s.tracking.list.getLast? with
    | none => rfl
    | some r => exact decide_eq_true (hlast hp r hr)
  | some p =>
    obtain ⟨hpos, hgap⟩ := htrail p hp
    exact (if_neg (Int.not_le.2 hpos)).trans (if_neg (Int.not_lt.2 hgap))

theorem gapResult_short {p : Word} (hp : s.induction.prevTrail = some p)
    (hpos : 0 < Word.diff lead p) (hgap : Word.diff lead p < (s.line.minGap : Int)) :
    s.gapResult lead = .short := by
  unfold State.gapResult
  rw [hp]
  exact (if_neg (Int.not_le.2 hpos)).trans (if_pos hgap)

theorem gapResult_discard (h : s.GapDiscards lead) : s.gapResult lead = .discard := by
  unfold State.gapResult
  rcases h with ⟨p, hp, hle⟩ | ⟨hp, r, hr, hle⟩
  · rw [hp]
    exact if_pos hle
  · rw [hp, hr]
    exact if_neg (by simpa using hle)

end

/-! ## The claim (R40 to R45, R52) -/

section
variable {s : State} {lead stamp : Word} {length : Nat} {short : Bool}

theorem setPrevTrail_of_ahead (h : s.Ahead (stamp.plus 65536)) : setPrevTrail stamp s =
    s.setInduction { s.induction with prevTrail := some stamp, trailExpiry := .armed } :=
  if_neg (by rw [armAt_reached_iff]; exact not_not_intro h)

/-- The record that induction sets up where the decision point is ahead (R41, R52). -/
def State.waitingRecord (s : State) (lead : Word) (length : Nat) (short : Bool) : Record :=
  { s.newRecord lead length short with decisionArm := .armed }

/-- The state once a record has been claimed, its triggers armed (R41, R42, R45). -/
def State.claimed (s : State) (lead stamp : Word) (length : Nat) (short : Bool) : State :=
  { s with
    tracking := { s.tracking with list := s.tracking.list ++ [s.waitingRecord lead length short] }
    link := { s.link with itemReports := s.link.itemReports ++
      [.inducted s.induction.nextItem lead length short] }
    induction := { s.induction with
      prevTrail := some stamp, trailExpiry := .armed
      nextItem := if s.induction.nextItem < 65535 then s.induction.nextItem + 1 else 1 } }

theorem newRecord_of_ahead (hd : s.Ahead (lead.plus s.line.decision)) :
    s.newRecord lead length short = s.waitingRecord lead length short := by
  unfold State.waitingRecord State.newRecord
  rw [armAt_of_ahead hd]

theorem induct_of_ahead (hd : s.Ahead (lead.plus s.line.decision))
    (ht : s.Ahead (stamp.plus 65536)) :
    induct lead stamp length short s = s.claimed lead stamp length short := by
  have hinduct : induct lead stamp length short s = claimRecord lead stamp length short s :=
    if_neg (by rw [armAt_reached_iff]; exact not_not_intro hd)
  rw [hinduct, claimRecord, newRecord_of_ahead hd, setPrevTrail_of_ahead (by exact ht)]
  rfl

theorem checkPool_free (h : s.tracking.list.length + s.tracking.fatePending.length < 64) :
    checkPool lead stamp length short s = induct lead stamp length short s := by
  have hfree : s.freeRecords ≠ 0 := by
    simp only [State.freeRecords, Config.poolSize]
    omega
  exact if_neg hfree

theorem checkPool_full (h : 64 ≤ s.tracking.list.length + s.tracking.fatePending.length) :
    checkPool lead stamp length short s = faultOccur .poolExhausted none (setPrevTrail stamp s) := by
  have hfree : s.freeRecords = 0 := by
    simp only [State.freeRecords, Config.poolSize]
    omega
  exact if_pos hfree

theorem checkGap_clear (h : s.GapClear lead) : checkGap lead stamp length s =
    checkPool lead stamp length false s := by
  rw [checkGap, gapResult_clear h]

theorem checkGap_discard (h : s.GapDiscards lead) : checkGap lead stamp length s =
    faultOccur .gapShort none s := by
  rw [checkGap, gapResult_discard h]

theorem checkGap_short {p : Word} (hp : s.induction.prevTrail = some p)
    (hpos : 0 < Word.diff lead p) (hgap : Word.diff lead p < (s.line.minGap : Int)) :
    checkGap lead stamp length s =
      checkPool lead stamp length true (faultOccur .gapShort none s) := by
  rw [checkGap, gapResult_short hp hpos hgap]

end

/-! ## What follows a short gap -/

/-- The state with the blockage ended and GAP_SHORT taken (R38, R39). -/
def State.gapShortTaken (s : State) : State := faultOccur .gapShort none (endBlockage s)

theorem gapShortTaken_reads (s : State) :
    s.gapShortTaken.position = s.position ∧ s.gapShortTaken.line = s.line ∧
      s.gapShortTaken.induction = { s.induction with measurement := .clear, jamTrigger := none } ∧
      s.gapShortTaken.tracking = s.trackingAfter .gapShort := by
  unfold State.gapShortTaken
  obtain ⟨-, -, -, hposition, hline, hinduction, -⟩ :=
    faultOccur_frame .gapShort none (endBlockage s)
  exact ⟨hposition, hline, hinduction, faultOccur_tracking rfl _⟩

theorem gapShortTaken_counted (s : State) : (s.gapShortTaken.source .gapShort).latched = true ∧
    (s.gapShortTaken.source .gapShort).count = min 255 ((s.source .gapShort).count + 1) :=
  faultOccur_counted .gapShort none (endBlockage s)

theorem ahead_congr {s t : State} (h : t.position = s.position) (p : Word) :
    t.Ahead p ↔ s.Ahead p := by
  unfold State.Ahead
  rw [h]

/-- A free record: after a short gap the item is inducted all the same (R39, R41). -/
theorem checkPool_gapShortTaken {s : State} {lead stamp : Word} {length : Nat}
    (hused : s.tracking.list.length + s.tracking.fatePending.length < 64)
    (hd : s.Ahead (lead.plus s.line.decision)) (ht : s.Ahead (stamp.plus 65536)) :
    checkPool lead stamp length true s.gapShortTaken =
      s.gapShortTaken.claimed lead stamp length true := by
  obtain ⟨hposition, hline, -, htracking⟩ := gapShortTaken_reads s
  rw [checkPool_free (by rw [htracking, trackingAfter_used]; exact hused),
    induct_of_ahead (by rw [hline]; exact (ahead_congr hposition _).2 hd)
      ((ahead_congr hposition _).2 ht)]

/-! ## The edge that ends a measurement of legal length (R37 to R42) -/

theorem endMeasurement_legal {s : State} {lead stamp : Word}
    (hmin : (s.line.minLength : Int) ≤ Word.diff stamp lead)
    (hmax : Word.diff stamp lead ≤ (s.line.maxLength : Int))
    (h : s.induction.measurement = .measuring lead) : endMeasurement stamp s =
      checkGap lead stamp (Word.diff stamp lead).toNat (endBlockage s) := by
  rw [endMeasurement_measuring stamp h]
  exact checkLength_legal hmin hmax

theorem entryClear_source (stamp : Word) (s : State) (f : FaultSource) :
    (entryClear stamp s).source f = (endMeasurement stamp s).source f :=
  source_congr (entryClear_reads stamp s).2.2.2 f

/-- No free record: POOL_EXHAUSTED occurs, and the trail is kept (R40). -/
theorem checkPool_full_reads {u : State} {lead stamp : Word} {length : Nat} {short : Bool}
    (hfull : 64 ≤ u.tracking.list.length + u.tracking.fatePending.length)
    (ht : u.Ahead (stamp.plus 65536)) :
    (checkPool lead stamp length short u).induction =
        { u.induction with prevTrail := some stamp, trailExpiry := .armed } ∧
      (checkPool lead stamp length short u).tracking = u.trackingAfter .poolExhausted ∧
      ((checkPool lead stamp length short u).source .poolExhausted).latched = true ∧
      ((checkPool lead stamp length short u).source .poolExhausted).count =
        min 255 ((u.source .poolExhausted).count + 1) ∧
      ∀ g, g ≠ .poolExhausted →
        (checkPool lead stamp length short u).source g = u.source g := by
  have hkept : checkPool lead stamp length short u = faultOccur .poolExhausted none
      (u.setInduction { u.induction with prevTrail := some stamp, trailExpiry := .armed }) := by
    rw [checkPool_full hfull, setPrevTrail_of_ahead ht]
  rw [hkept]
  obtain ⟨-, -, -, -, -, hinduction, -⟩ := faultOccur_frame .poolExhausted none
    (u.setInduction { u.induction with prevTrail := some stamp, trailExpiry := .armed })
  obtain ⟨hlatched, hcount⟩ := faultOccur_counted .poolExhausted none
    (u.setInduction { u.induction with prevTrail := some stamp, trailExpiry := .armed })
  refine ⟨hinduction, faultOccur_tracking rfl _, hlatched, hcount, fun g hg => ?_⟩
  rw [faultOccur_source, if_neg hg]
  rfl

/-- Settles O13: by what the gap check finds, then by the pool. -/
theorem measuredItemIsInducted : Obligations.MeasuredItemIsInducted := by
  intro s lead stamp hm hmin hmax t length new ended trailed numbered used counted release isShort
  have ht : t = entryClear stamp s := rfl
  have hend := endMeasurement_legal hmin hmax hm
  obtain ⟨hind, htrack, hlink, -⟩ := entryClear_reads stamp s
  have hsource := entryClear_source stamp s
  rw [hend] at hind htrack hlink hsource
  rw [← ht] at hind htrack hlink hsource
  obtain ⟨hposition, hline, hinduction, htracking⟩ := gapShortTaken_reads s
  obtain ⟨hlatched, hcount⟩ := gapShortTaken_counted s
  refine ⟨fun hclear hused hd htrail => ?_, fun ⟨p, hp, hpos, hgap⟩ hused hd htrail => ?_,
    fun hdis => ?_, fun hgap hused htrail => ?_⟩
  · have hclaimed : endMeasurement stamp s =
        (endBlockage s).claimed lead stamp (Word.diff stamp lead).toNat false := by
      rw [hend, checkGap_clear (s := endBlockage s) hclear,
        checkPool_free (s := endBlockage s) hused,
        induct_of_ahead (s := endBlockage s) hd htrail]
    rw [ht, entryClear, hclaimed, setGapRelease_eq]
    rfl
  · rw [checkGap_short (s := endBlockage s) hp hpos hgap] at hind htrack hlink hsource
    have hinduct := checkPool_gapShortTaken (length := length) hused hd htrail
    have hnew : s.gapShortTaken.waitingRecord lead length true = new true := by
      unfold State.waitingRecord State.newRecord
      rw [hinduction, hline]
    have hfields : s.gapShortTaken.induction.nextItem = s.induction.nextItem := by rw [hinduction]
    rw [show checkPool lead stamp (Word.diff stamp lead).toNat true
      (faultOccur .gapShort none (endBlockage s)) = _ from hinduct] at hind htrack hlink hsource
    refine ⟨?_, ?_, ?_, ?_, ?_⟩
    · rw [htrack, State.claimed, hnew, htracking]
    · rw [hlink, State.claimed, hfields]
      exact List.getLast?_concat
    · rw [hind, State.claimed, hinduction]
    · rw [hsource]
      exact hlatched
    · rw [hsource]
      exact hcount
  · rw [checkGap_discard (s := endBlockage s) hdis] at hind htrack hsource
    refine ⟨htrack.trans htracking, hind.trans hinduction, ?_, ?_⟩
    · rw [hsource]
      exact hlatched
    · rw [hsource]
      exact hcount
  · rcases hgap with hclear | ⟨p, hp, hpos, hgap⟩
    · rw [checkGap_clear (s := endBlockage s) hclear] at hind htrack hsource
      obtain ⟨hi, hr, hl, hc, -⟩ := checkPool_full_reads (u := endBlockage s) (lead := lead)
        (length := length) (short := false) hused htrail
      refine ⟨hind.trans hi, ⟨?_, ?_⟩, fun ⟨p, hp, hpos, hgap⟩ => ?_, fun _ => htrack.trans hr⟩
      · rw [hsource]
        exact hl
      · rw [hsource]
        exact hc
      · exact absurd (hclear.1 p hp).2 (Int.not_le.2 hgap)
    · rw [checkGap_short (s := endBlockage s) hp hpos hgap] at hind htrack hsource
      obtain ⟨hi, -, hl, hc, hother⟩ := checkPool_full_reads (u := s.gapShortTaken) (lead := lead)
        (length := length) (short := true) (stamp := stamp)
        (by rw [htracking, trackingAfter_used]; exact hused) ((ahead_congr hposition _).2 htrail)
      rw [hinduction] at hi
      have hexhausted : s.gapShortTaken.source .poolExhausted = s.source .poolExhausted := by
        rw [State.gapShortTaken, faultOccur_source, if_neg (by decide)]
        rfl
      rw [hexhausted] at hc
      have hshort := hother .gapShort (by decide)
      refine ⟨hind.trans hi, ⟨?_, ?_⟩, fun _ => ⟨?_, ?_⟩, fun hclear => ?_⟩
      · rw [hsource]
        exact hl
      · rw [hsource]
        exact hc
      · rw [hsource]
        exact (congrArg (·.latched) hshort).trans hlatched
      · rw [hsource]
        exact (congrArg (·.count) hshort).trans hcount
      · exact absurd (hclear.1 p hp).2 (Int.not_le.2 hgap)

end Sys2Proof.Machine
end

section
/-! SUPPORT. SOFT_RESET in its three scopes (R49, R69, R130, R135, R142, R171, R185). -/

namespace Sys2Proof.Machine

/-! ## What the scopes leave -/

/-- The purge and the lanes' reset leave the blocks that TRACK does not name (R185). -/
theorem clearTracks_kept (s : State) : { clearTracks s with
    tracking := s.tracking, link := s.link, lanes := s.lanes, induction := s.induction
    events := s.events } = s ∧
    (clearTracks s).induction = { s.induction with prevTrail := none, trailExpiry := .off } := by
  refine ⟨State.ext_blocks ?_ ?_ ?_ ?_ ?_ ?_ ?_ ?_ ?_ ?_ ?_ ?_ ?_ ?_ ?_, ?_⟩ <;>
    simp [clearTracks, dropPrevTrail, forLanes_keeps]

theorem clearTracks_blocks (s : State) :
    (clearTracks s).position = s.position ∧ (clearTracks s).infeed = s.infeed := by
  simp [clearTracks, dropPrevTrail, forLanes_keeps]

theorem clearTracks_tracking (s : State) : (clearTracks s).tracking = s.purgedTracking :=
  (clearTracks_frame s).1.trans (purge_tracking s)

theorem clearTracks_link (s : State) : (clearTracks s).link = s.purgedLink :=
  (clearTracks_frame s).2.trans (purge_link s)

/-- An emptied lane's state (R118, R130). -/
theorem emptied_state (u : LaneUnit) : u.emptied.state = match u.state with
    | .draining | .closing .disabled => .disabled
    | .closing .fenced => .fenced
    | x => x := by
  have hstate : ({ u with queue := [] } : LaneUnit).cutShort.state = u.state := by simp
  have hqueue : ({ u with queue := [] } : LaneUnit).cutShort.queue = [] := by simp
  have hphase : ({ u with queue := [] } : LaneUnit).cutShort.phase ≠ .extend := by simp
  show ({ u with queue := [] } : LaneUnit).cutShort.exitState = _
  generalize ({ u with queue := [] } : LaneUnit).cutShort = v at hstate hqueue hphase
  unfold LaneUnit.exitState
  rw [hstate, hqueue]
  cases u.state with
  | draining => exact if_pos ⟨rfl, hphase⟩
  | closing target => cases target <;> rfl
  | enabled => rfl
  | disabled => rfl
  | fenced => rfl

theorem poolUse_eq (s : State) : s.poolUse = poolBytes s.tracking := rfl

/-- The state CONFIG re-latches and arms from (R185). -/
def State.reconfigured (s : State) : State :=
  resetConfiguration (resetEvents (clearTracks s))

/-- What CONFIG's configuration leaves of the blocks it finds. -/
theorem resetConfiguration_reads (t : State) :
    (resetConfiguration (resetEvents t)).tracking = t.tracking ∧
      (resetConfiguration (resetEvents t)).link = t.link ∧
      (resetConfiguration (resetEvents t)).position = t.position ∧
      (resetConfiguration (resetEvents t)).induction = t.induction ∧
      (resetConfiguration (resetEvents t)).infeed =
        { t.infeed with enable := false, holdPool := false, holdJam := false } := by
  simp [resetConfiguration, resetEvents]

theorem resetConfiguration_lane (t : State) (l : LaneId) :
    (resetConfiguration (resetEvents t)).lane l = LaneUnit.reset (t.accepted (.fullSensor l)) := by
  simp [resetConfiguration, State.lane]
  rfl

theorem reconfigured_reads (s : State) :
    s.reconfigured.tracking = s.purgedTracking ∧ s.reconfigured.link = s.purgedLink ∧
      s.reconfigured.position = s.position ∧
      s.reconfigured.induction = { s.induction with prevTrail := none, trailExpiry := .off } ∧
      s.reconfigured.infeed = { s.infeed with enable := false, holdPool := false, holdJam := false } ∧
      ∀ l : LaneId, s.reconfigured.lane l = LaneUnit.reset (s.accepted (.fullSensor l)) := by
  obtain ⟨-, hinduction⟩ := clearTracks_kept s
  obtain ⟨hposition, hinfeed⟩ := clearTracks_blocks s
  obtain ⟨ht, hl, hp, hi, hf⟩ := resetConfiguration_reads (clearTracks s)
  rw [hinfeed] at hf
  refine ⟨ht.trans (clearTracks_tracking s), hl.trans (clearTracks_link s), hp.trans hposition,
    hi.trans hinduction, hf, fun l => ?_⟩
  rw [State.reconfigured, resetConfiguration_lane, accepted_congr hposition]

theorem reconfigured_blocks (s : State) :
    s.reconfigured.line = LineConfig.reset ∧ s.reconfigured.belt = BeltDrive.reset ∧
      s.reconfigured.routes = RouteTable.reset ∧ s.reconfigured.cursors = resetCursors ∧
      s.reconfigured.faults = FaultUnit.reset ∧
      s.reconfigured.events = { EventUnit.reset with spacingTimer := 0 } := by
  unfold State.reconfigured
  generalize resetEvents (clearTracks s) = t
  exact ⟨rfl, rfl, rfl, rfl, rfl, rfl⟩

theorem source_of_reset {s : State} (h : s.faults = FaultUnit.reset) (f : FaultSource) :
    s.source f = SourceState.reset f := by
  unfold State.source
  rw [h]
  cases f <;> rfl

end Sys2Proof.Machine
end

section
/-! SUPPORT. What CONFIG's re-latch and its jam trigger leave, and the statement about SOFT_RESET (R47,
R142, R185). -/

namespace Sys2Proof.Machine

/-! ## The re-latch after the configuration -/

/-- CONFIG once the level sources have been re-latched, before the jam trigger is armed (R142, R185). -/
def State.relatched (s : State) : State := relatchSet 0x7FFF s.reconfigured

theorem resetConfig_eq (s : State) : resetConfig s = chooseInfeed (rearmJam s.relatched) := rfl

theorem relatched_eq (s : State) : s.relatched =
    relatch .laneJam (relatch .entryJam (relatch .estop s.reconfigured)) :=
  relatchSet_all s.reconfigured

theorem relatched_reads (s : State) :
    s.relatched.position = s.position ∧ s.relatched.line = LineConfig.reset ∧
      s.relatched.routes = RouteTable.reset ∧
      s.relatched.induction = { s.induction with prevTrail := none, trailExpiry := .off } := by
  obtain ⟨-, -, hposition, hinduction, -⟩ := reconfigured_reads s
  obtain ⟨hline, -, hroutes, -⟩ := reconfigured_blocks s
  obtain ⟨-, -, -, hp, hl, hi, hr, -⟩ := relatchSet_frame 0x7FFF s.reconfigured
  exact ⟨hp.trans hposition, hl.trans hline, hr.trans hroutes, hi.trans hinduction⟩

theorem rearmJam_invariant {P : State → Prop} {s : State}
    (occur : ∀ {s : State}, P s → P (faultOccur .entryJam none s))
    (induction : ∀ {s : State} (v : Induction), P s → P (s.setInduction v)) (h : P s) :
    P (rearmJam s) := by
  have harm (p : Word) : P (armJam p s) := by
    by_cases ha : s.Ahead p
    · rw [armJam_of_ahead ha]
      exact induction _ h
    · rw [armJam_of_not_ahead ha]
      exact occur (induction _ h)
  unfold rearmJam
  split
  · exact harm _
  · exact harm _
  · exact h
  · exact h

/-- What holds once ESTOP has been re-latched holds after CONFIG, where occurrences of the other two level
sources keep it. -/
theorem resetConfig_invariant {P : State → Prop} {s : State}
    (occur : ∀ {s : State} (f : FaultSource) (lane : Option LaneId), f ≠ .estop → P s →
      P (faultOccur f lane s))
    (induction : ∀ {s : State} (v : Induction), P s → P (s.setInduction v))
    (choose : ∀ {s : State}, P s → P (chooseInfeed s)) (h : P (relatch .estop s.reconfigured)) :
    P (resetConfig s) := by
  rw [resetConfig_eq, relatched_eq]
  refine choose (rearmJam_invariant (occur _ _ (by decide)) induction ?_)
  exact relatch_invariant .laneJam (fun lane => occur _ lane (by decide))
    (relatch_invariant .entryJam (fun lane => occur _ lane (by decide)) h)

theorem KeptByActions.resetConfig {P : State → Prop} (K : KeptByActions P) {s : State}
    (h : P (relatch .estop s.reconfigured)) : P (resetConfig s) :=
  resetConfig_invariant (fun f lane _ => K.faultOccur f lane)
    (fun {t} _ ht => K.congr (s := t) rfl rfl rfl rfl ht) K.chooseInfeed h

/-! ## Tracking, and the emergency stop -/

theorem resetConfig_tracking (s : State) : (resetConfig s).tracking = s.purgedTracking := by
  obtain ⟨htracking, -⟩ := reconfigured_reads s
  have K : KeptByActions (TracksAs s.purgedTracking) := keptByActions_tracksAs rfl rfl
  exact K.resetConfig (relatch_invariant .estop (K.faultOccur .estop) htracking)

/-- ESTOP has latched as the first fault since the reset, and the belt brakes (R144, R152). -/
structure StoppedSinceReset (t : State) : Prop where
  source : t.source .estop = (SourceState.reset .estop).latchedBy none
  first : t.faults.first = some .estop
  brakes : Brakes t

theorem StoppedSinceReset.congr {s t : State} (h : StoppedSinceReset s) (hf : t.faults = s.faults)
    (hb : t.belt = s.belt) : StoppedSinceReset t where
  source := (source_congr hf _).trans h.source
  first := by rw [hf, h.first]
  brakes := brakes_congr hb h.brakes

theorem StoppedSinceReset.faultOccur {s : State} (h : StoppedSinceReset s) (f : FaultSource)
    (lane : Option LaneId) (hne : f ≠ .estop) : StoppedSinceReset (faultOccur f lane s) where
  source := by rw [faultOccur_source, if_neg (Ne.symm hne), h.source]
  first := by
    rw [faultOccur_faults, h.first]
    exact ite_self _
  brakes := keptByActions_brakes.faultOccur f lane h.brakes

theorem stoppedSinceReset_relatch {u : State} (hfaults : u.faults = FaultUnit.reset)
    (ha : u.accepted .emergencyStop = true) : StoppedSinceReset (relatch .estop u) := by
  have hreset := source_of_reset hfaults .estop
  have hl : (u.source .estop).latched = false := by rw [hreset]; rfl
  have hm : (u.source .estop).masked = false := by rw [hreset]; rfl
  have hsource : (Machine.faultOccur .estop none u).source .estop =
      (SourceState.reset .estop).latchedBy none := by
    rw [faultOccur_source_latches hl, hreset]
  rw [relatch_estop ha]
  refine ⟨hsource, ?_, ?_⟩
  · rw [faultOccur_faults, hl, hm, hfaults]
    rfl
  · have hcls : ((Machine.faultOccur .estop none u).source .estop).cls = .stop := by
      rw [hsource]
      rfl
    obtain ⟨-, -, -, -, hstop⟩ : u.ActionTaken (Machine.faultOccur .estop none u) .estop :=
      faultOccur_acting hl hm none ▸ actionTaken_acting _ _ _
    unfold Brakes
    rw [(hstop hcls).1]
    split
    · assumption
    · rfl

theorem resetConfig_estop {s : State} (ha : s.accepted .emergencyStop = true) :
    StoppedSinceReset (resetConfig s) := by
  obtain ⟨-, -, hposition, -⟩ := reconfigured_reads s
  obtain ⟨-, -, -, -, hfaults, -⟩ := reconfigured_blocks s
  exact resetConfig_invariant (fun f lane hne h => h.faultOccur f lane hne)
    (fun _ h => h.congr rfl rfl) (fun h => h.congr (by simp) (by simp))
    (stoppedSinceReset_relatch hfaults ((accepted_congr hposition _).trans ha))

/-! ## The jam trigger and ENTRY_JAM -/

theorem resetConfig_jammed {s : State} (hj : s.induction.measurement = .jammed) :
    (resetConfig s).source .entryJam = (SourceState.reset .entryJam).latchedBy none ∧
      (resetConfig s).induction.measurement = .jammed := by
  obtain ⟨-, -, -, hinduction, -⟩ := reconfigured_reads s
  obtain ⟨-, -, -, -, hfaults, -⟩ := reconfigured_blocks s
  obtain ⟨-, -, -, hrelatched⟩ := relatched_reads s
  have hjammed : s.relatched.induction.measurement = .jammed := by rw [hrelatched]; exact hj
  have hbefore : (relatch .estop s.reconfigured).induction.measurement = .jammed := by
    rw [(relatch_frame .estop s.reconfigured).2.2.2.2.2.1, hinduction]
    exact hj
  have hreset : (relatch .estop s.reconfigured).source .entryJam = SourceState.reset .entryJam := by
    rw [relatch_source_of_ne (by decide), source_of_reset hfaults]
  have hl : ((relatch .estop s.reconfigured).source .entryJam).latched = false := by
    rw [hreset]
    rfl
  rw [resetConfig_eq, rearmJam_of_rest (.inr hjammed)]
  refine ⟨?_, ?_⟩
  · rw [chooseInfeed_source, relatched_eq, relatch_source_of_ne (by decide),
      relatch_entryJam hbefore, faultOccur_source_latches hl, hreset]
  · simp only [chooseInfeed_frame]
    exact hjammed

section
variable {s : State} {lead : Word}
  (hm : s.induction.measurement = .measuring lead ∨ s.induction.measurement = .unmeasured lead)
include hm

/-- A blockage arms the jam trigger for the maximum length of the starting configuration (R46, R47). -/
theorem resetConfig_blocked :
    resetConfig s = chooseInfeed (armJam (lead.plus 4001) s.relatched) := by
  obtain ⟨-, hline, -, hinduction⟩ := relatched_reads s
  have hmeasure : s.relatched.induction.measurement = s.induction.measurement := by
    rw [hinduction]
  rw [resetConfig_eq, rearmJam_of_blocked (by rw [hmeasure]; exact hm), hline]
  rfl

theorem resetConfig_armed (h : s.Ahead (lead.plus 4001)) :
    (resetConfig s).induction.measurement = s.induction.measurement ∧
      (resetConfig s).induction.jamTrigger = some { pos := lead.plus 4001, reached := false } := by
  obtain ⟨hposition, -, -, hinduction⟩ := relatched_reads s
  have hread (i : Induction) : (chooseInfeed (s.relatched.setInduction i)).induction = i := by simp
  rw [resetConfig_blocked hm, armJam_of_ahead ((ahead_congr hposition _).2 h), hread, hinduction]
  exact ⟨rfl, rfl⟩

theorem resetConfig_jams (h : ¬ s.Ahead (lead.plus 4001)) :
    (resetConfig s).induction.measurement = .jammed ∧
      (resetConfig s).induction.jamTrigger = none ∧
      ((resetConfig s).source .entryJam).latched = true := by
  obtain ⟨hposition, -⟩ := relatched_reads s
  rw [resetConfig_blocked hm, armJam_of_not_ahead (fun ha => h ((ahead_congr hposition _).1 ha)),
    chooseInfeed_source, takeJam]
  refine ⟨?_, ?_, (faultOccur_counted .entryJam none _).1⟩
  · simp
  · simp

end

theorem resetConfig_config (s : State) : (resetConfig s).line = LineConfig.reset ∧
    (resetConfig s).routes = RouteTable.reset := by
  obtain ⟨-, hline, hroutes, -⟩ := relatched_reads s
  rw [resetConfig_eq]
  simp only [chooseInfeed_frame, rearmJam_frame]
  exact ⟨hline, hroutes⟩

/-! ## CONFIG with no level condition -/

/-- With no level condition the configuration stands, and the infeed is OFF (R33, R185). -/
theorem resetConfig_quiet {s : State} (ha : s.accepted .emergencyStop = false)
    (hm : s.induction.measurement = .clear) : resetConfig s = s.reconfigured.setInfeed
      { enable := false, state := .off, holdPool := false, holdJam := false
        gapRelease := s.infeed.gapRelease } := by
  obtain ⟨-, -, hposition, hinduction, hinfeed, hlane⟩ := reconfigured_reads s
  obtain ⟨-, -, -, -, -, hevents⟩ := reconfigured_blocks s
  have hmeasure : s.reconfigured.induction.measurement = .clear := by rw [hinduction]; exact hm
  have hestop : s.reconfigured.conditionHolds .estop = false := (accepted_congr hposition _).trans ha
  have hentry : s.reconfigured.conditionHolds .entryJam = false := by
    rw [conditionHolds_entryJam, hmeasure]
    rfl
  have hjams : s.reconfigured.conditionHolds .laneJam = false :=
    conditionHolds_laneJam_of_none fun l => by rw [hlane]; rfl
  have hrelatched : s.relatched = s.reconfigured := by
    rw [State.relatched, relatchSet_all, relatch_of_not hestop, relatch_of_not hentry,
      relatch_of_not hjams]
  have hoff : s.reconfigured.infeedChoice = .off := if_pos (by rw [hinfeed])
  have hquiet (p : EventPair) (pos : Word) (i : Infeed) :
      handEvent p pos (s.reconfigured.setInfeed i) = s.reconfigured.setInfeed i := by
    rw [handEvent]
    simp [hevents, EventUnit.reset]
  rw [resetConfig_eq, hrelatched, rearmJam_of_rest (.inl hmeasure), chooseInfeed, hoff]
  simp only [hquiet, ite_self, hinfeed]

/-! ## The commands -/

theorem isSoftReset_of_parse {scope : ResetScope} {f : Frame} (hk : f.kind = 0x03)
    (hp : parseSoftReset f.payload = some scope) : isSoftReset scope f = true := by
  simp [isSoftReset, isKind, hk, hp]

theorem onSoftReset_ready {s : State} {f : Frame} {scope : ResetScope} (h : s.Ready f)
    (hk : f.kind = 0x03) (hp : parseSoftReset f.payload = some scope)
    (body : ResetScope → Frame → State → State) :
    onFrame (isSoftReset scope) (withArgs parseSoftReset body) s = body scope f s.taken := by
  rw [onFrame_ready h _ _ (isSoftReset_of_parse hk hp), withArgs, hp]

theorem exec_softResetTrack {s : State} {f : Frame} (h : s.Ready f) (hk : f.kind = 0x03)
    (hp : f.payload = [0]) :
    exec .softResetTrack s = .next (replyReset .track f (resetTrack s.taken)) :=
  congrArg Host.Outcome.next (onSoftReset_ready h hk (by rw [hp]; rfl) _)

theorem exec_softResetEvents {s : State} {f : Frame} (h : s.Ready f) (hk : f.kind = 0x03)
    (hp : f.payload = [1]) :
    exec .softResetEvents s = .next (replyReset .events f (resetEvents s.taken)) :=
  congrArg Host.Outcome.next (onSoftReset_ready h hk (by rw [hp]; rfl) _)

theorem exec_softResetConfig {s : State} {f : Frame} (h : s.Ready f) (hk : f.kind = 0x03)
    (hp : f.payload = [2]) : exec .softResetConfig s = .next (if s.belt.state = .stopped then
      replyReset .config f (resetConfig s.taken) else replyTo f .badState [] s.taken) :=
  congrArg Host.Outcome.next (onSoftReset_ready h hk (by rw [hp]; rfl) _)

theorem exec_softResetConfig_stopped {s : State} {f : Frame} (h : s.Ready f) (hk : f.kind = 0x03)
    (hp : f.payload = [2]) (hb : s.belt.state = .stopped) : exec .softResetConfig s =
      .next ((resetConfig s.taken).answered f .ok (2 :: poolBytes s.purgedTracking)) := by
  rw [exec_softResetConfig h hk hp, if_pos hb, replyReset, replyOk_eq_answered, poolUse_eq,
    resetConfig_tracking]
  rfl

theorem exec_softResetTrack_answered {s : State} {f : Frame} (h : s.Ready f) (hk : f.kind = 0x03)
    (hp : f.payload = [0]) : exec .softResetTrack s =
      .next ((resetTrack s.taken).answered f .ok (0 :: poolBytes s.purgedTracking)) := by
  have htracking : (resetTrack s.taken).tracking = s.purgedTracking := by
    rw [resetTrack]
    simp only [chooseInfeed_frame]
    exact clearTracks_tracking s.taken
  rw [exec_softResetTrack h hk hp, replyReset, replyOk_eq_answered, poolUse_eq, htracking]
  rfl

end Sys2Proof.Machine
end

section
/-! SUPPORT. The statement about SOFT_RESET (R185). -/

namespace Sys2Proof.Machine

/-- What TRACK leaves (R49, R69, R130, R185). -/
theorem resetTrack_reads (s : State) :
    (resetTrack s).tracking = s.purgedTracking ∧ (resetTrack s).link = s.purgedLink ∧
      (∀ l : LaneId, (resetTrack s).lane l = (s.lane l).emptied) ∧
      (resetTrack s).induction = { s.induction with prevTrail := none, trailExpiry := .off } ∧
      (resetTrack s).infeed = { s.infeed with state := (resetTrack s).infeedChoice } ∧
      { resetTrack s with
        tracking := s.tracking, link := s.link, lanes := s.lanes, induction := s.induction
        infeed := s.infeed, events := s.events } = s := by
  obtain ⟨hkept, hinduction⟩ := clearTracks_kept s
  obtain ⟨-, hinfeed⟩ := clearTracks_blocks s
  refine ⟨?_, ?_, fun l => ?_, ?_, ?_, ?_⟩
  · rw [resetTrack]
    simp only [chooseInfeed_frame]
    exact clearTracks_tracking s
  · rw [resetTrack]
    simp only [chooseInfeed_frame]
    exact clearTracks_link s
  · rw [resetTrack, chooseInfeed_lane]
    exact clearTracks_lane s l
  · rw [resetTrack]
    simp only [chooseInfeed_frame]
    exact hinduction
  · rw [resetTrack, chooseInfeed_choice, chooseInfeed_infeed, hinfeed]
  · rw [resetTrack, chooseInfeed_eq]
    generalize clearTracks s = t at hkept
    exact congrArg (fun t : State => { t with infeed := s.infeed }) hkept

theorem purgedLink_answered (s t : State) (h : t.link = s.purgedLink) (f : Frame) (st : Status)
    (bytes : List Byte) : (t.answered f st bytes).link =
      ({ s with link := s.purgedLink }.answered f st bytes).link := by
  unfold State.answered
  rw [h]

/-- Settles O6: the purge and the lanes for TRACK, the entries for EVENTS, and the configuration with its
re-latch and its jam trigger for CONFIG. -/
theorem softResetByScope : Obligations.SoftResetByScope := by
  refine fun s f h hk => ⟨fun hp => ?_, fun hp => ?_, fun hp => ⟨fun hb => ?_, fun hb ha hm => ?_,
    fun hb => ?_⟩⟩
  · obtain ⟨htracking, hlink, hlanes, hinduction, hinfeed, hrest⟩ := resetTrack_reads s.taken
    have hexec := exec_softResetTrack_answered h hk hp
    generalize resetTrack s.taken = t at *
    refine ⟨_, hexec, htracking, purgedLink_answered _ _ hlink .., fun l => ?_, hinduction, hinfeed,
      ?_⟩
    · have hlane : (t.answered f .ok (0 :: poolBytes s.purgedTracking)).lane l =
          (s.lane l).emptied := hlanes l
      rw [hlane]
      obtain ⟨hqueue, hphase, hgeometry, -, hslots, hlast, hfull, hjam⟩ := emptied_frame (s.lane l)
      exact ⟨hqueue, hphase, hgeometry, hslots, hlast, hfull, hjam, emptied_state (s.lane l)⟩
    · exact congrArg (fun t : State => { t with link := s.link }) hrest
  · rw [exec_softResetEvents h hk hp]
    rfl
  · rw [exec_softResetConfig h hk hp, if_neg hb]
    rfl
  · obtain ⟨htracking, hlink, hposition, hinduction, -, hlane⟩ := reconfigured_reads s.taken
    obtain ⟨hline, hbelt, hroutes, hcursors, hfaults, hevents⟩ := reconfigured_blocks s.taken
    have hexec := exec_softResetConfig_stopped h hk hp hb
    rw [resetConfig_quiet (s := s.taken) ha hm] at hexec
    generalize s.taken.reconfigured = t at *
    refine ⟨_, hexec, htracking, purgedLink_answered _ _ hlink .., hline, hbelt, hroutes,
      fun g => ?_, hlane, hfaults, hevents, rfl, hinduction, congrArg (·.count) hposition,
      congrArg (·.measuredSpeed) hposition, congrArg (·.reverseRun) hposition, fun i => ?_⟩
    · exact (congrArg (fun v : Vector LaneId 8 => v[g]) hcursors).trans (by simp [resetCursors])
    · exact congrArg (fun v : PositionUnit => v.sensors[i].accepted) hposition
  · obtain ⟨hline, hroutes⟩ := resetConfig_config s.taken
    have htracking := resetConfig_tracking s.taken
    have hestop := resetConfig_estop (s := s.taken)
    have hjammed := resetConfig_jammed (s := s.taken)
    have harmed (lead : Word) := resetConfig_armed (s := s.taken) (lead := lead)
    have hjams (lead : Word) := resetConfig_jams (s := s.taken) (lead := lead)
    have hexec := exec_softResetConfig_stopped h hk hp hb
    generalize resetConfig s.taken = t at *
    refine ⟨_, hexec, htracking, hline, hroutes, fun ha => ?_, fun hj => ?_, fun lead hm =>
      ⟨fun hahead => harmed lead hm hahead, fun hreached => hjams lead hm hreached⟩⟩
    · obtain ⟨hsource, hfirst, hbrakes⟩ := hestop ha
      exact ⟨congrArg (·.latched) hsource, congrArg (·.count) hsource, hfirst, hbrakes⟩
    · obtain ⟨hsource, hmeasure⟩ := hjammed hj
      exact ⟨congrArg (·.latched) hsource, congrArg (·.count) hsource, hmeasure⟩

end Sys2Proof.Machine
end
